-- ==== Sys2Proof/Word.lean ====
section
/-!
DEFINITION. The word types of the Reaction-Game Core (spec/00_scope.md R7): every value is an
unsigned integer of a stated width, bit 0 the least significant.
-/

namespace Sys2Proof

/-- A host register word and a command word (R15, R60). -/
abbrev Word := BitVec 32

/-- The width of the seed, of a sample as the core sees it and of every operand (R6: `SEED_W`,
`ARG_W`). -/
abbrev Half := BitVec 16

/-- One bit per channel: a pressed vector, the `LED` latches, the `MODE` bits (R19, R20). -/
abbrev Pads := BitVec 4

/-- A ChannelIndex, 0 to 3 (R9). -/
abbrev Channel := BitVec 2

/-- A host register index (R18: "a 2-bit index"). -/
abbrev RegIndex := BitVec 2

end Sys2Proof
end

