-- ==== Sys2Proof/Syntax.lean ====
section
/-!
DEFINITION. The six host commands (spec/30_encoding.md R62), one constructor per row of
spec/opcode_table.json. The pseudo-commands `ROUND.L50`, `ROUND.L10`, `ROUND.L5` (R69) are
spellings of `ROUND` words and need none.
-/

namespace Sys2Proof

/-- A command with its operand. Every operand is `arg`, an unsigned 16-bit number used exactly as
written (R61). -/
inductive Instr where
  /-- `RNDCH` (R88): draw a channel index. -/
  | rndch
  /-- `RNDRG range` (R89): draw a value scaled into a range. -/
  | rndrg (range : Half)
  /-- `ROUND budget` (R100): run one round of at most `budget` polls. -/
  | round (budget : Half)
  /-- `SCORE score` (R120): blink the decimal digits of `score`. -/
  | score (score : Half)
  /-- `ANIMS` (R130): the start animation. -/
  | anims
  /-- `ANIMF` (R132): the fail animation. -/
  | animf
deriving DecidableEq, Repr

end Sys2Proof
end

