-- ==== Sys2Proof/Decode.lean ====
section
/-!
DEFINITION. The command word: its fields, the decoder (total on every 32-bit word) and the encoder
(spec/30_encoding.md R60 to R64). A command is one word the host writes to `CMD`; no space of the
core is byte-addressed, so there is no byte order to choose (spec/20_memory.md R48).
-/

namespace Sys2Proof

/-- `op = w[31:28]` (R60). -/
def opField (w : Word) : BitVec 4 := w.extractLsb' 28 4

/-- `zero = w[27:16]` (R60). -/
def zeroField (w : Word) : BitVec 12 := w.extractLsb' 16 12

/-- `arg = w[15:0]` (R60). -/
def argField (w : Word) : Half := w.extractLsb' 0 16

/-- The word with these fields: `op` at bit 28, `zero` at bit 16, `arg` at bit 0 (R60). -/
def composeWord (op : BitVec 4) (zero : BitVec 12) (arg : Half) : Word :=
  op.setWidth 32 <<< 28 ||| zero.setWidth 32 <<< 16 ||| arg.setWidth 32

/-- Why a word is no command (R63). The core does not tell the reasons apart: there is one cause,
`IllegalCommand` (R145). -/
inductive IllegalWord where
  /-- `op` is 0x0 or 0x7 to 0xF -/
  | reservedOpcode
  /-- `zero` is not 0x000 -/
  | zeroFieldSet
  /-- a command without an operand has `arg` other than 0x0000 -/
  | operandNotZero
deriving DecidableEq, Repr

/-- The answer of the decoder (R64): the command, or `Illegal` with the reason. -/
inductive Decoded where
  | command (i : Instr)
  | illegal (why : IllegalWord)
deriving DecidableEq, Repr

/-- A command that must have `arg = 0` (R62). -/
def withoutOperand (arg : Half) (i : Instr) : Decoded :=
  if arg = 0#16 then .command i else .illegal .operandNotZero

/-- The decoder (R62 to R64), total on every word. -/
def decode (w : Word) : Decoded :=
  if zeroField w ≠ 0#12 then .illegal .zeroFieldSet
  else if opField w = 0x1#4 then withoutOperand (argField w) .rndch
  else if opField w = 0x2#4 then .command (.rndrg (argField w))
  else if opField w = 0x3#4 then .command (.round (argField w))
  else if opField w = 0x4#4 then .command (.score (argField w))
  else if opField w = 0x5#4 then withoutOperand (argField w) .anims
  else if opField w = 0x6#4 then withoutOperand (argField w) .animf
  else .illegal .reservedOpcode

/-- The decoder's command, if the word is one. -/
def Decoded.instr : Decoded → Option Instr
  | .command i => some i
  | .illegal _ => none

/-- The opcode of a command (R62). -/
def opcodeOf : Instr → BitVec 4
  | .rndch => 0x1#4
  | .rndrg _ => 0x2#4
  | .round _ => 0x3#4
  | .score _ => 0x4#4
  | .anims => 0x5#4
  | .animf => 0x6#4

/-- The `arg` of a command: its operand, or 0 where it has none (R60, R61). -/
def operandOf : Instr → Half
  | .rndch => 0#16
  | .rndrg range => range
  | .round budget => budget
  | .score score => score
  | .anims => 0#16
  | .animf => 0#16

/-- The encoder: the word of a command (R60, R62). -/
def encode (i : Instr) : Word := composeWord (opcodeOf i) 0#12 (operandOf i)

/-- The `match` column of R62. -/
def matchOf : Instr → Word
  | .rndch => 0x10000000#32
  | .rndrg _ => 0x20000000#32
  | .round _ => 0x30000000#32
  | .score _ => 0x40000000#32
  | .anims => 0x50000000#32
  | .animf => 0x60000000#32

/-- The `mask` column of R62. -/
def maskOf : Instr → Word
  | .rndch => 0xFFFFFFFF#32
  | .rndrg _ => 0xFFFF0000#32
  | .round _ => 0xFFFF0000#32
  | .score _ => 0xFFFF0000#32
  | .anims => 0xFFFFFFFF#32
  | .animf => 0xFFFFFFFF#32

/-- The instruction the decoder reads from a word numbered as spec/opcode_table.json numbers it: bit
0 the least significant, bits from `nbits` up zero. -/
def decodeTableWord (nbits w : Nat) : Option Instr :=
  (decode (BitVec.ofNat 32 (w % 2 ^ nbits))).instr

end Sys2Proof
end

