-- ==== Sys2Proof/Config.lean ====
section
/-!
DEFINITION. What an implementation fixes (spec/00_scope.md R6, the parameters marked OPEN) and the
free values: the answers of the environment, which the spec puts under no law
(spec/93_implementation_defined.md U1, U3, U4).
-/

namespace Sys2Proof

/-- `SEED_INIT_MODE` (R6, R81, D5). -/
inductive SeedInit where
  | draw
  | zero
deriving DecidableEq, Repr

/-- The level of a pad (R19, R42, R44). -/
inductive Level where
  | high
  | low
deriving DecidableEq, Repr

/-- One (port, pin) identifier of the PinBinding (R9, R19). -/
structure PadId where
  port : Nat
  pin : Nat
deriving DecidableEq, Repr

/-- The OPEN parameters of R6. -/
structure Config where
  /-- `SEED_INIT_MODE` -/
  seedInit : SeedInit
  /-- `REL_WAIT_MISS` -/
  relWaitMiss : Bool
  /-- `LED_ON_LEVEL` -/
  ledOnLevel : Level
  /-- `BIND`, one pad per channel -/
  bind : Vector PadId 4
  /-- `ADC_W`, the width of a raw analog sample -/
  adcWidth : Nat
deriving DecidableEq, Repr

/-- The defaults. `SEED_INIT_MODE`, `REL_WAIT_MISS` and `LED_ON_LEVEL` are the defaults R6 states.
DESIGN CHOICE (log 6): R6 gives `BIND` and `ADC_W` no default; four distinct pads of one port, and
16 bits, so that a raw sample is any 16-bit value. -/
def Config.default : Config where
  seedInit := .draw
  relWaitMiss := false
  ledOnLevel := .high
  bind := #v[⟨0, 0⟩, ⟨0, 1⟩, ⟨0, 2⟩, ⟨0, 3⟩]
  adcWidth := 16

/-- FREE VALUE (log 5): the raw analog sample of the `n`-th question the environment is asked, where
no scripted answer stands in State (R45, U1: "any value"). -/
opaque Config.freeSample : Nat → Nat

/-- FREE VALUE (log 5): the levels of the four pads at the `n`-th question (R44, U4: "any value"). -/
opaque Config.freePads : Nat → Pads

/-- FREE VALUE (log 5): the initial seed at the `n`-th question (R47, R81, U3: "any value"). -/
opaque Config.freeSeed : Nat → Half

end Sys2Proof
end

