-- ==== Sys2Proof/Machine/State.lean ====
section
/-!
DEFINITION. The state of the Reaction-Game Core as plain data (spec/10_state.md R10 to R23), the
reasons a step can stop, and the state after reset (R23).
-/

namespace Sys2Proof.Machine

/-- The argument of `PinModeAll` (spec/20_memory.md R41): inputs with pull-up, or outputs. -/
inductive PinMode where
  | input
  | output
deriving DecidableEq, Repr

/-- The alphabet of the event trace (R55). -/
inductive Event where
  /-- `ModeAll(m)`, appended by `PinModeAll` (R41) -/
  | modeAll (m : PinMode)
  /-- `Led(i, b)`, appended by `PinWrite` (R42) -/
  | led (i : Channel) (b : Bool)
  /-- `LedAll(v)`, appended by `PinWriteAll` (R43) -/
  | ledAll (v : Pads)
  /-- `Btn(v)`, appended by `PinReadAll` (R44) -/
  | btn (v : Pads)
  /-- `Adc(v)`, appended by `AdcSample` (R45) -/
  | adc (v : Half)
  /-- `Delay(n)`, appended by `Delay` (R46) -/
  | delay (n : Nat)
  /-- `Draw(v)`, appended by `Draw16` (R47) -/
  | draw (v : Half)
deriving DecidableEq, Repr

/-- The place in `SAMPLE`: before R81, or in the loop of R82. -/
inductive SampleAt where
  | seedInit
  | accumulate
deriving DecidableEq, Repr

/-- The place in `SHOW` (spec/41_round.md R102, R103): before `PinWrite(KEY, 1)`, before
`Delay(50)`, before `PinWriteAll(0b0000)`, after it. -/
inductive ShowAt where
  | assert
  | hold
  | deassert
  | leave
deriving DecidableEq, Repr

/-- The place in `AWAIT` (R105): at the loop's test, or before `Delay(1)`. -/
inductive AwaitAt where
  | test
  | wait
deriving DecidableEq, Repr

/-- The place in a digit's `Blink` (spec/42_score.md R123): at the loop's test, before the first
`Delay(200)`, before `PinWrite(c, 0)`, before the second `Delay(200)`. -/
inductive BlinkAt where
  | test
  | onHold
  | off
  | offHold
deriving DecidableEq, Repr

/-- The place in `ANIM_S` (spec/43_animation.md R130, R131): before `PinModeAll(OUT)`, before a
write or a `Delay(100)` of the off-sweep or the on-sweep, before `Delay(1000)`, before `Complete`. -/
inductive StartAnimAt where
  | enter
  | offWrite
  | offHold
  | onWrite
  | onHold
  | pause
  | finish
deriving DecidableEq, Repr

/-- The place in `ANIM_F` (R132, R133). -/
inductive FailAnimAt where
  | enter
  | on
  | onHold
  | off
  | offHold
  | finish
deriving DecidableEq, Repr

/-- The outcome a round has decided (R106): the pseudocode's variable `outcome`. -/
inductive RoundOutcome where
  | hit
  | fail
deriving DecidableEq, Repr

/-- The phase register `PH` (R12), the core's program counter. Codes 13 to 15 are unrepresentable, as
R12 allows. DEDUCED (log 3): a phase also holds the place in its pseudocode where the core stands,
and `RELWAIT` holds the outcome R106 decided, which its own polls must not lose. The host sees only
the phase's code (`Phase.code`). -/
inductive Phase where
  | idle
  | sample (place : SampleAt)
  | mix
  | showTarget (place : ShowAt)
  | await (place : AwaitAt)
  | relWait (outcome : RoundOutcome)
  | resHit
  | resFail
  /-- `DISP_H` before `PinModeAll(OUT)` and the digit split (R120, R121) -/
  | dispEnter
  | dispH (place : BlinkAt)
  | dispT (place : BlinkAt)
  | dispU (place : BlinkAt)
  | animS (place : StartAnimAt)
  | animF (place : FailAnimAt)
deriving DecidableEq, Repr

/-- One turn of the schedule (log 4): who acts next, and what a host access is. -/
inductive Turn where
  /-- the core performs one step of the running command -/
  | core
  /-- one period of the 1 ms timebase passes while the core is at a `Delay` (log 2) -/
  | tick
  /-- the host reads a register (R15 to R18) -/
  | read (index : RegIndex)
  /-- the host writes a register (R15 to R18) -/
  | write (index : RegIndex) (w : Word)
  /-- reset is asserted (R160) -/
  | reset
deriving DecidableEq, Repr

/-- What one host read returned (log 7). -/
structure HostRead where
  index : RegIndex
  value : Word
deriving DecidableEq, Repr

/-- The state of the machine, and beside it the plain data the model itself needs: the parameters,
the environment's answers, the schedule of turns and the record of host reads. -/
structure State where
  /-- the OPEN parameters of R6, written by no step (log 6) -/
  cfg : Config
  /-- `PH` (R12) -/
  ph : Phase
  /-- `SEED` (R11) -/
  seed : Half
  /-- `TMP` (R11) -/
  tmp : Half
  /-- `KEY` (R11) -/
  key : Channel
  /-- `CNT` (R11, R149) -/
  cnt : Half
  /-- `BTN` (R11) -/
  btn : Pads
  /-- `OP` (R11) -/
  op : BitVec 4
  /-- `ARG` (R11) -/
  arg : Half
  /-- `SCNT` (R11) -/
  scnt : BitVec 5
  /-- `DIGH` (R11) -/
  digH : BitVec 10
  /-- `DIGT` (R11) -/
  digT : BitVec 4
  /-- `DIGU` (R11) -/
  digU : BitVec 4
  /-- `BLK` (R11) -/
  blk : BitVec 10
  /-- `REP` (R11) -/
  rep : BitVec 2
  /-- `IDX` (R11) -/
  idx : BitVec 3
  /-- `DLY` (R11, R46, R149) -/
  dly : BitVec 10
  /-- `BUSY` (R14) -/
  busy : Bool
  /-- `DONE` (R14) -/
  done : Bool
  /-- `HIT` (R14) -/
  hit : Bool
  /-- `ERR` (R14, R142) -/
  err : Bool
  /-- `RESULT[15:0]` (R17); bits 31 to 16 read as 0 and have no storage (log 10) -/
  result : Half
  /-- `MODE[3:0]` (R19): 0 an input with pull-up, 1 an output -/
  mode : Pads
  /-- `LED[3:0]` (R19): the output latches, 1 lit -/
  led : Pads
  /-- the event trace (R55), oldest first -/
  trace : List Event
  /-- the environment's next raw analog samples, oldest first (R45; log 5) -/
  samples : List Nat
  /-- the environment's next pad levels, bit `i` the level of pad `i`, 1 High (R44; log 5) -/
  pads : List Pads
  /-- the environment's next seed draws (R47; log 5) -/
  draws : List Half
  /-- how many questions the environment has answered: the argument of the next free value (log 5) -/
  fresh : Nat
  /-- the schedule: whose turn is next (log 4); when it is empty the core acts -/
  turns : List Turn
  /-- what the host's reads returned, oldest first (log 7) -/
  reads : List HostRead
deriving DecidableEq, Repr

/-- Why a step stops with a fault. Both are for states that no run reaches (log 9). -/
inductive Fault where
  /-- Raised by a core turn when `BUSY = 1` and `OP`, `ARG` hold no command. Safe: R66 writes both
  from a legal word and nothing else does. -/
  | noCommand
  /-- Raised by a command's meaning when `BUSY = 1` and `PH` is no phase of that command. Safe: R112
  and the table of R12 rule it out. -/
  | outOfPhase
deriving DecidableEq, Repr

/-- Why a step is refused. -/
inductive Refusal where
  /-- Raised by an arm of `exec` whose instruction has no meaning yet. Safe: nothing is proved of it. -/
  | notModelled (mnemonic : String)
  /-- Raised by `step` for a launch whose `BIND` is not four distinct pads (U2: "is refused"). Safe
  (log 8). -/
  | illFormedBinding
deriving DecidableEq, Repr

/-- The machine right after reset: every register at the value of R23, the entry point `IDLE`. The
model's own fields: the parameters at their defaults, no scripted answer, no turn scheduled, no read
recorded (DESIGN CHOICE, logs 4 to 7). -/
def State.reset : State where
  cfg := Config.default
  ph := .idle
  seed := 0#16
  tmp := 0#16
  key := 0#2
  cnt := 0#16
  btn := 0#4
  op := 0#4
  arg := 0#16
  scnt := 0#5
  digH := 0#10
  digT := 0#4
  digU := 0#4
  blk := 0#10
  rep := 0#2
  idx := 0#3
  dly := 0#10
  busy := false
  done := false
  hit := false
  err := false
  result := 0#16
  mode := 0#4
  led := 0#4
  trace := []
  samples := []
  pads := []
  draws := []
  fresh := 0
  turns := []
  reads := []

/-- What a meaning and a step answer. -/
abbrev Result := Host.Outcome State Fault Refusal

end Sys2Proof.Machine
end

