-- ==== Sys2Proof/Machine/Flags.lean ====
section
/-!
DEFINITION. The four flags and the phase code as the host reads them: `STATUS`
(spec/10_state.md R12, R14, R16). There are no arithmetic condition codes (R14).
-/

namespace Sys2Proof.Machine

/-- The code of a phase (R12). -/
def Phase.code : Phase → BitVec 4
  | .idle => 0#4
  | .sample _ => 1#4
  | .mix => 2#4
  | .showTarget _ => 3#4
  | .await _ => 4#4
  | .relWait _ => 5#4
  | .resHit => 6#4
  | .resFail => 7#4
  | .dispEnter => 8#4
  | .dispH _ => 8#4
  | .dispT _ => 9#4
  | .dispU _ => 10#4
  | .animS _ => 11#4
  | .animF _ => 12#4

/-- A flag at bit `k` of a word. -/
def flagAt (k : Nat) (b : Bool) : Word :=
  (BitVec.ofBool b).setWidth 32 <<< k

/-- `STATUS` (R16): bit 0 `BUSY`, bit 1 `DONE`, bit 2 `HIT`, bit 3 `ERR`, bits 7 to 4 `PH`, bits 31 to
8 zero. -/
def statusWord (s : State) : Word :=
  flagAt 0 s.busy ||| flagAt 1 s.done ||| flagAt 2 s.hit ||| flagAt 3 s.err |||
    s.ph.code.setWidth 32 <<< 4

end Sys2Proof.Machine
end

