-- ==== Sys2Proof/Machine/Params.lean ====
section
/-!
DEFINITION. The fixed parameters of the core, by the names of spec/00_scope.md R6. Times are in
periods of the 1 ms timebase.
-/

namespace Sys2Proof.Machine

/-- `N_SAMPLES` -/
def nSamples : BitVec 5 := 25#5

/-- `LCG_A` -/
def lcgA : Nat := 2053

/-- `LCG_C` -/
def lcgC : Nat := 13849

/-- `SCALE_DIV` -/
def scaleDiv : Nat := 65535

/-- `T_SHOW` -/
def tShow : Nat := 50

/-- `T_POLL` -/
def tPoll : Nat := 1

/-- `T_BLINK_ON` -/
def tBlinkOn : Nat := 200

/-- `T_BLINK_OFF` -/
def tBlinkOff : Nat := 200

/-- `T_ANIM_STEP` -/
def tAnimStep : Nat := 100

/-- `T_ANIM_PAUSE` -/
def tAnimPause : Nat := 1000

/-- `T_FAIL` -/
def tFail : Nat := 250

/-- `N_ANIM_REP` -/
def nAnimRep : BitVec 2 := 2#2

/-- `DIGIT_CH`: hundreds to channel 2 -/
def hundredsChannel : Channel := 2#2

/-- `DIGIT_CH`: tens to channel 1 -/
def tensChannel : Channel := 1#2

/-- `DIGIT_CH`: units to channel 0 -/
def unitsChannel : Channel := 0#2

end Sys2Proof.Machine
end

