-- ==== Sys2Proof/Machine/Operands.lean ====
section
/-!
DEFINITION. The values a command computes from its operand, its samples and its pressed vector
(spec/00_scope.md R7; spec/40_entropy.md R83 to R87; spec/42_score.md R121; spec/41_round.md R107;
spec/20_memory.md R44, R45). All arithmetic is unsigned (R90).
-/

namespace Sys2Proof.Machine

/-- The linear-congruential step (R83): exact on integers, then reduced to 16 bits. -/
def lcg (seed : Half) : Half :=
  BitVec.ofNat 16 (lcgA * seed.toNat + lcgC)

/-- One fold round: `t xor (t >> k)`, the shift logical; for `k >= 16` the shifted value is 0 (R7). -/
def foldRound (k : Nat) (t : Half) : Half :=
  t ^^^ (t >>> k)

/-- The channel fold (R84): cascaded rounds by 8, 4, 2. -/
def channelFold (seed : Half) : Half :=
  foldRound 2 (foldRound 4 (foldRound 8 seed))

/-- The channel output (R85): `TMP[1:0]`. -/
def channelOf (tmp : Half) : Channel :=
  tmp.extractLsb' 0 2

/-- The range fold (R86): cascaded rounds by 16, 8, 4; the first changes nothing. -/
def rangeFold (seed : Half) : Half :=
  foldRound 4 (foldRound 8 (foldRound 16 seed))

/-- The range scaling (R87): the exact product, its floor quotient by 65535, the low 16 bits. -/
def scale (range tmp : Half) : Half :=
  BitVec.ofNat 16 (range.toNat * tmp.toNat / scaleDiv)

/-- The hundreds digit (R121), not reduced modulo 10. -/
def hundredsOf (score : Half) : BitVec 10 :=
  BitVec.ofNat 10 (score.toNat / 100)

/-- The tens digit (R121). -/
def tensOf (score : Half) : BitVec 4 :=
  BitVec.ofNat 4 (score.toNat / 10 % 10)

/-- The units digit (R121). -/
def unitsOf (score : Half) : BitVec 4 :=
  BitVec.ofNat 4 (score.toNat % 10)

/-- `onehot(i)` (R7). -/
def onehot (i : Channel) : Pads :=
  1#4 <<< i.toNat

/-- `lsb_index(v)` (R7, R107). R7 defines it for a non-zero vector only, and R106 uses it on no
other. -/
def lsbIndex (v : Pads) : Channel :=
  if v.getLsbD 0 then 0#2
  else if v.getLsbD 1 then 1#2
  else if v.getLsbD 2 then 2#2
  else 3#2

/-- The pressed vector of four pad levels (R20, R44): bit `i` is 1 iff pad `i` reads Low. -/
def pressedOf (levels : Pads) : Pads :=
  ~~~levels

/-- A raw analog sample of `width` bits as the core sees it (R45): zero-extended to 16 bits, or its
low 16 bits. -/
def sampleOf (width raw : Nat) : Half :=
  BitVec.ofNat 16 (raw % 2 ^ width)

/-- The channel a sweep index names (R131: the index runs over 0 to 3). -/
def sweepChannel (idx : BitVec 3) : Channel :=
  idx.extractLsb' 0 2

end Sys2Proof.Machine
end

