-- ==== Sys2Proof/Machine/Ops.lean ====
section
/-!
DEFINITION. The named operations every command is written over: the environment primitives
(spec/20_memory.md R41 to R47), accept and completion (spec/30_encoding.md R66, R67), the one
exception (spec/60_exceptions.md R141), the host register reads (spec/10_state.md R15 to R18), reset
(spec/70_reset_and_hazards.md R160) and the periods of a `Delay` (R46, R149).
-/

namespace Sys2Proof.Machine

/-- Append one event to the trace (R55). -/
def emit (e : Event) (s : State) : State :=
  { s with trace := s.trace ++ [e] }

/-- The `MODE` bits `PinModeAll(m)` writes (R41). -/
def modeBits : PinMode → Pads
  | .input => 0b0000#4
  | .output => 0b1111#4

/-- `PinModeAll(m)` (R41): all four `MODE` bits at once; the latches are not changed. -/
def pinModeAll (m : PinMode) (s : State) : State :=
  emit (.modeAll m) { s with mode := modeBits m }

/-- `LED` with latch `i` at `b` and the other three as they were (R42). -/
def withLatch (led : Pads) (i : Channel) (b : Bool) : Pads :=
  if b then led ||| onehot i else led &&& ~~~(onehot i)

/-- `PinWrite(i, b)` (R42). -/
def pinWrite (i : Channel) (b : Bool) (s : State) : State :=
  emit (.led i b) { s with led := withLatch s.led i b }

/-- `PinWriteAll(v)` (R43). -/
def pinWriteAll (v : Pads) (s : State) : State :=
  emit (.ledAll v) { s with led := v }

/-- The pressed vector the next `PinReadAll()` returns (R44): the environment's answer, any value. It
does not depend on `MODE`: R44 calls it only with all pads inputs (log 15). -/
def pressedNow (s : State) : Pads :=
  pressedOf (s.pads.headD (Config.freePads s.fresh))

/-- `PinReadAll()` (R44): the event, and the answer is used up. -/
def pinReadAll (s : State) : State :=
  emit (.btn (pressedNow s)) { s with pads := s.pads.tail, fresh := s.fresh + 1 }

/-- The sample the next `AdcSample()` returns (R45): the environment's answer, any value. -/
def sampleNow (s : State) : Half :=
  sampleOf s.cfg.adcWidth (s.samples.headD (Config.freeSample s.fresh))

/-- `AdcSample()` (R45): the event, and the answer is used up. -/
def adcSample (s : State) : State :=
  emit (.adc (sampleNow s)) { s with samples := s.samples.tail, fresh := s.fresh + 1 }

/-- The value the next `Draw16()` returns (R47): the environment's answer, any value. -/
def drawNow (s : State) : Half :=
  s.draws.headD (Config.freeSeed s.fresh)

/-- `Draw16()` (R47): the event, and the answer is used up. -/
def draw16 (s : State) : State :=
  emit (.draw (drawNow s)) { s with draws := s.draws.tail, fresh := s.fresh + 1 }

/-- `Delay(n)` begins (R46): its one event, and `DLY` holds the `n` periods that remain. -/
def beginDelay (n : Nat) (s : State) : State :=
  emit (.delay n) { s with dly := BitVec.ofNat 10 n }

/-- One period of the timebase passes in a `Delay` (R149): `DLY` counts down. -/
def countPeriod (s : State) : State :=
  { s with dly := s.dly - 1#10 }

/-- `Delay(n)` in one turn of the core (R46, D25): its one event, unless ticks have begun it already,
and the periods that remain elapse (log 2). -/
def delay (n : Nat) (s : State) : State :=
  { s with
    trace := if s.dly = 0#10 then s.trace ++ [.delay n] else s.trace
    dly := 0#10 }

/-- The argument of the `Delay` the core stands at, if it stands at one (R103, R105, R123, R131,
R133). -/
def Phase.delayAt : Phase → Option Nat
  | .showTarget .hold => some tShow
  | .await .wait => some tPoll
  | .dispH .onHold => some tBlinkOn
  | .dispH .offHold => some tBlinkOff
  | .dispT .onHold => some tBlinkOn
  | .dispT .offHold => some tBlinkOff
  | .dispU .onHold => some tBlinkOn
  | .dispU .offHold => some tBlinkOff
  | .animS .offHold => some tAnimStep
  | .animS .onHold => some tAnimStep
  | .animS .pause => some tAnimPause
  | .animF .onHold => some tFail
  | .animF .offHold => some tFail
  | _ => none

/-- The first phase of a command (R66). -/
def firstPhase : Instr → Phase
  | .rndch => .sample .seedInit
  | .rndrg _ => .sample .seedInit
  | .round _ => .sample .seedInit
  | .score _ => .dispEnter
  | .anims => .animS .enter
  | .animf => .animF .enter

/-- Accept (R66), one atomic step: `ERR` and every other register are left alone. -/
def accept (i : Instr) (s : State) : State :=
  { s with
    op := opcodeOf i
    arg := operandOf i
    busy := true
    done := false
    hit := false
    result := 0#16
    ph := firstPhase i }

/-- `Complete(r, h)` (R67), one atomic step. -/
def complete (r : Half) (h : Bool) (s : State) : State :=
  { s with result := r, hit := h, done := true, busy := false, ph := .idle }

/-- `raise IllegalCommand(w)` (R65, R141), the one exception: `ERR <- 1` and nothing else. It saves
no state, changes no mode and transfers control nowhere (R146), so there is no return from it (R147). -/
def raiseIllegalCommand (s : State) : State :=
  { s with err := true }

/-- What a host read of a register returns (R15 to R18): `CMD` and index 3 read 0; `STATUS` is the
flags and the phase code; `RESULT` has bits 31 to 16 zero. -/
def readRegister (index : RegIndex) (s : State) : Word :=
  if index = 1#2 then statusWord s
  else if index = 2#2 then s.result.setWidth 32
  else 0#32

/-- A host read: no side effect on the machine (R16); the value goes to the host's record (log 7). -/
def hostRead (index : RegIndex) (s : State) : State :=
  { s with reads := s.reads ++ [⟨index, readRegister index s⟩] }

/-- Reset (R160): every piece of the machine's state at the value of R23, the trace empty. The
parameters, the environment, the schedule and the host's record are not the machine's (log 14). -/
def resetMachine (s : State) : State :=
  { State.reset with
    cfg := s.cfg
    samples := s.samples
    pads := s.pads
    draws := s.draws
    fresh := s.fresh
    turns := s.turns
    reads := s.reads }

/-- The opposite level. -/
def Level.other : Level → Level
  | .high => .low
  | .low => .high

/-- The level the core drives the pad of channel `i` to (R19): none while it is an input; else
`LED_ON_LEVEL` for a lit latch and the opposite level for an unlit one. -/
def padDrive (s : State) (i : Channel) : Option Level :=
  if s.mode.getLsbD i.toNat then
    some (if s.led.getLsbD i.toNat then s.cfg.ledOnLevel else Level.other s.cfg.ledOnLevel)
  else
    none

/-- The pad of channel `i` (R19: "the (port, pin) `BIND[i]`"). -/
def padOf (s : State) (i : Channel) : PadId :=
  s.cfg.bind.get i.toFin

/-- The command in progress, from `OP` and `ARG` (R11, R66). -/
def currentCommand (s : State) : Option Instr :=
  (decode (composeWord s.op 0#12 s.arg)).instr

/-- The pins as `BIND` and `LED_ON_LEVEL` show them to the board (R19, R42): each channel's pad and
the level it is driven to. -/
def pinsOut (s : State) : List (PadId × Option Level) :=
  [0#2, 1#2, 2#2, 3#2].map fun i => (padOf s i, padDrive s i)

end Sys2Proof.Machine
end

