-- ==== Sys2Proof/Machine/Animation.lean ====
section
/-!
DEFINITION. The animation sequencer: `ANIMS` and `ANIMF` (spec/43_animation.md R130 to R133).
-/

namespace Sys2Proof.Machine

/-- The start of the start animation (R130, R131): `PinModeAll(OUT); REP <- 0`, the first index. -/
def enterStartAnim (s : State) : State :=
  { pinModeAll .output s with rep := 0#2, idx := 0#3, ph := .animS .offWrite }

/-- A write of a sweep (R131): `PinWrite(IDX, b)`. -/
def sweepWrite (b : Bool) (next : StartAnimAt) (s : State) : State :=
  { pinWrite (sweepChannel s.idx) b s with ph := .animS next }

/-- The delay after a write of the off-sweep (R131); after channel 3 the on-sweep begins. -/
def offSweepHold (s : State) : State :=
  let t := { delay tAnimStep s with idx := s.idx + 1#3 }
  if t.idx = 4#3 then { t with idx := 0#3, ph := .animS .onWrite }
  else { t with ph := .animS .offWrite }

/-- The delay after a write of the on-sweep (R131); after channel 3 a repetition is done, and after
the second the pause follows. -/
def onSweepHold (s : State) : State :=
  let t := { delay tAnimStep s with idx := s.idx + 1#3 }
  if t.idx = 4#3 then
    if s.rep + 1#2 = nAnimRep then { t with rep := s.rep + 1#2, ph := .animS .pause }
    else { t with rep := s.rep + 1#2, idx := 0#3, ph := .animS .offWrite }
  else { t with ph := .animS .onWrite }

/-- One step of the start animation (R130, R131). -/
def startAnimStep (a : StartAnimAt) (s : State) : State :=
  match a with
  | .enter => enterStartAnim s
  | .offWrite => sweepWrite false .offHold s
  | .offHold => offSweepHold s
  | .onWrite => sweepWrite true .onHold s
  | .onHold => onSweepHold s
  | .pause => { delay tAnimPause s with ph := .animS .finish }
  | .finish => complete 0#16 false s

/-- The start of the fail animation (R132, R133): `PinModeAll(OUT); REP <- 0`. -/
def enterFailAnim (s : State) : State :=
  { pinModeAll .output s with rep := 0#2, ph := .animF .on }

/-- The delay after all four LEDs went off (R133): a repetition is done. -/
def failOffHold (s : State) : State :=
  let t := { delay tFail s with rep := s.rep + 1#2 }
  if t.rep = nAnimRep then { t with ph := .animF .finish } else { t with ph := .animF .on }

/-- One step of the fail animation (R132, R133). -/
def failAnimStep (a : FailAnimAt) (s : State) : State :=
  match a with
  | .enter => enterFailAnim s
  | .on => { pinWriteAll 0b1111#4 s with ph := .animF .onHold }
  | .onHold => { delay tFail s with ph := .animF .off }
  | .off => { pinWriteAll 0b0000#4 s with ph := .animF .offHold }
  | .offHold => failOffHold s
  | .finish => complete 0#16 false s

/-- `ANIMS` (R130): one step. -/
def execAnims (s : State) : Result :=
  match s.busy, s.ph with
  | false, _ => .next (accept .anims s)
  | true, .animS a => .next (startAnimStep a s)
  | true, _ => .fault .outOfPhase

/-- `ANIMF` (R132): one step. -/
def execAnimf (s : State) : Result :=
  match s.busy, s.ph with
  | false, _ => .next (accept .animf s)
  | true, .animF a => .next (failAnimStep a s)
  | true, _ => .fault .outOfPhase

end Sys2Proof.Machine
end

