-- ==== Sys2Proof/Machine/Entropy.lean ====
section
/-!
DEFINITION. The pseudo-random number generator: `RNDCH` and `RNDRG` (spec/40_entropy.md R80 to R89).
-/

namespace Sys2Proof.Machine

/-- One turn of the loop of R82: a sample is XORed into `SEED`; after the 25th, `PH <- MIX` (R80). -/
def accumulateSample (s : State) : State :=
  let t := { adcSample s with seed := s.seed ^^^ sampleNow s, scnt := s.scnt + 1#5 }
  if t.scnt = nSamples then { t with ph := .mix } else { t with ph := .sample .accumulate }

/-- R81 with `SEED_INIT_MODE = DRAW`: one `Draw16()`. -/
def drawSeed (s : State) : State :=
  { draw16 s with seed := drawNow s, scnt := 0#5, ph := .sample .accumulate }

/-- R81 with `SEED_INIT_MODE = ZERO`: no primitive, so it shares the step of the first sample (log 1). -/
def zeroSeed (s : State) : State :=
  accumulateSample { s with seed := 0#16, scnt := 0#5 }

/-- One step in `SAMPLE`: R81, or a turn of R82. -/
def sampleStep (a : SampleAt) (s : State) : State :=
  match a with
  | .seedInit =>
    match s.cfg.seedInit with
    | .draw => drawSeed s
    | .zero => zeroSeed s
  | .accumulate =>
    if s.scnt = nSamples then { s with ph := .mix } else accumulateSample s

/-- R83, R84: the LCG step and the channel fold. -/
def mixChannel (s : State) : State :=
  { s with seed := lcg s.seed, tmp := channelFold (lcg s.seed) }

/-- R83, R86: the LCG step and the range fold. -/
def mixRange (s : State) : State :=
  { s with seed := lcg s.seed, tmp := rangeFold (lcg s.seed) }

/-- R85 and the completion of R88. -/
def finishChannel (s : State) : State :=
  complete ((channelOf s.tmp).setWidth 16) false s

/-- R87 and the completion of R89. -/
def finishRange (s : State) : State :=
  complete (scale s.arg s.tmp) false s

/-- `RNDCH` (R88): one step. -/
def execRndch (s : State) : Result :=
  match s.busy, s.ph with
  | false, _ => .next (accept .rndch s)
  | true, .sample a => .next (sampleStep a s)
  | true, .mix => .next (finishChannel (mixChannel s))
  | true, _ => .fault .outOfPhase

/-- `RNDRG range` (R89): one step. -/
def execRndrg (range : Half) (s : State) : Result :=
  match s.busy, s.ph with
  | false, _ => .next (accept (.rndrg range) s)
  | true, .sample a => .next (sampleStep a s)
  | true, .mix => .next (finishRange (mixRange s))
  | true, _ => .fault .outOfPhase

end Sys2Proof.Machine
end

