-- ==== Sys2Proof/Machine/Round.lean ====
section
/-!
DEFINITION. The round state machine and its countdown: `ROUND` (spec/41_round.md R100 to R112).
-/

namespace Sys2Proof.Machine

/-- R101's key and R102's first primitive: `KEY <- channel; PH <- SHOW; PinModeAll(OUT)`. -/
def enterShow (s : State) : State :=
  pinModeAll .output { s with key := channelOf s.tmp, ph := .showTarget .assert }

/-- The entry of `AwaitInput` (R104): inputs, the countdown loaded, `BTN` cleared. -/
def enterAwait (s : State) : State :=
  pinModeAll .input { s with cnt := s.arg, btn := 0b0000#4, ph := .await .test }

/-- One step in `SHOW` (R102, R103), and the entry of `AWAIT` that follows it. -/
def showStep (a : ShowAt) (s : State) : State :=
  match a with
  | .assert => { pinWrite s.key true s with ph := .showTarget .hold }
  | .hold => { delay tShow s with ph := .showTarget .deassert }
  | .deassert => { pinWriteAll 0b0000#4 s with ph := .showTarget .leave }
  | .leave => enterAwait s

/-- The decision (R106): a Timeout without a press, else a Hit iff the lowest pressed button is the
key. -/
def decideOutcome (s : State) : RoundOutcome :=
  if s.btn = 0b0000#4 then .fail
  else if lsbIndex s.btn = s.key then .hit
  else .fail

/-- `RES_HIT` or `RES_FAIL` (R109). -/
def resolvedPhase : RoundOutcome → Phase
  | .hit => .resHit
  | .fail => .resFail

/-- The guard of the release wait (R108): on a Hit always, on a Miss iff `REL_WAIT_MISS`, on a Timeout
never. -/
def waitsForRelease (s : State) (o : RoundOutcome) : Bool :=
  o == .hit || (o == .fail && s.btn != 0b0000#4 && s.cfg.relWaitMiss)

/-- The loop's exit (R106, R108): the outcome is decided once, on the `BTN` the loop left. -/
def leaveAwait (s : State) : State :=
  if waitsForRelease s (decideOutcome s) then { s with ph := .relWait (decideOutcome s) }
  else { s with ph := resolvedPhase (decideOutcome s) }

/-- One poll of R105: a press leaves the loop at once, with no delay and `CNT` not decremented. -/
def poll (s : State) : State :=
  let t := { pinReadAll s with btn := pressedNow s }
  if t.btn = 0b0000#4 then { t with ph := .await .wait } else leaveAwait t

/-- One step in `AWAIT` (R105): the loop's test, then a poll; or `Delay(1); CNT <- CNT - 1`. -/
def awaitStep (a : AwaitAt) (s : State) : State :=
  match a with
  | .test => if s.cnt = 0#16 then leaveAwait s else poll s
  | .wait => { delay tPoll s with cnt := s.cnt - 1#16, ph := .await .test }

/-- One poll of the release wait (R108): no delay, no bound, `CNT` not touched. -/
def releaseStep (o : RoundOutcome) (s : State) : State :=
  let t := { pinReadAll s with btn := pressedNow s }
  if t.btn = 0b0000#4 then { t with ph := resolvedPhase o } else t

/-- `ROUND budget` (R100): one step. -/
def execRound (budget : Half) (s : State) : Result :=
  match s.busy, s.ph with
  | false, _ => .next (accept (.round budget) s)
  | true, .sample a => .next (sampleStep a s)
  | true, .mix => .next (enterShow (mixChannel s))
  | true, .showTarget a => .next (showStep a s)
  | true, .await a => .next (awaitStep a s)
  | true, .relWait o => .next (releaseStep o s)
  | true, .resHit => .next (complete 1#16 true s)
  | true, .resFail => .next (complete 0#16 false s)
  | true, _ => .fault .outOfPhase

end Sys2Proof.Machine
end

