-- ==== Sys2Proof/Machine/Score.lean ====
section
/-!
DEFINITION. The score digit decoder and blink sequencer: `SCORE` (spec/42_score.md R120 to R124).
-/

namespace Sys2Proof.Machine

/-- The digit split (R121). -/
def splitDigits (s : State) : State :=
  { s with digH := hundredsOf s.arg, digT := tensOf s.arg, digU := unitsOf s.arg }

/-- The start of the display (R120, R122): `PinModeAll(OUT)`, the digits, `BLK <- DIGH`. -/
def enterDisplay (s : State) : State :=
  let t := splitDigits (pinModeAll .output s)
  { t with blk := t.digH, ph := .dispH .test }

/-- One step of `Blink(c, n)` (R123) in the phase `here`; `leave` is what follows when no blink
remains. -/
def blinkStep (c : Channel) (here : BlinkAt → Phase) (leave : State → State) (a : BlinkAt)
    (s : State) : State :=
  match a with
  | .test => if s.blk = 0#10 then leave s else { pinWrite c true s with ph := here .onHold }
  | .onHold => { delay tBlinkOn s with ph := here .off }
  | .off => { pinWrite c false s with ph := here .offHold }
  | .offHold => { delay tBlinkOff s with blk := s.blk - 1#10, ph := here .test }

/-- `PH <- DISP_T`, and the tens are loaded (R122, R123). -/
def toTens (s : State) : State :=
  { s with blk := s.digT.setWidth 10, ph := .dispT .test }

/-- `PH <- DISP_U`, and the units are loaded (R122, R123). -/
def toUnits (s : State) : State :=
  { s with blk := s.digU.setWidth 10, ph := .dispU .test }

/-- `SCORE score` (R120): one step. -/
def execScore (score : Half) (s : State) : Result :=
  match s.busy, s.ph with
  | false, _ => .next (accept (.score score) s)
  | true, .dispEnter => .next (enterDisplay s)
  | true, .dispH a => .next (blinkStep hundredsChannel .dispH toTens a s)
  | true, .dispT a => .next (blinkStep tensChannel .dispT toUnits a s)
  | true, .dispU a => .next (blinkStep unitsChannel .dispU (complete 0#16 false) a s)
  | true, _ => .fault .outOfPhase

end Sys2Proof.Machine
end

