-- ==== Sys2Proof/Machine/Dispatch.lean ====
section
/-!
DEFINITION. One arm per command: its meaning, called by its full name.
-/

namespace Sys2Proof.Machine

/-- One step of the command `i`: its accept while `BUSY = 0` (R66), else its next primitive. -/
def exec (i : Instr) (s : State) : Host.Outcome State Fault Refusal :=
  match i with
  | .rndch => Sys2Proof.Machine.execRndch s
  | .rndrg range => Sys2Proof.Machine.execRndrg range s
  | .round budget => Sys2Proof.Machine.execRound budget s
  | .score score => Sys2Proof.Machine.execScore score s
  | .anims => Sys2Proof.Machine.execAnims s
  | .animf => Sys2Proof.Machine.execAnimf s

end Sys2Proof.Machine
end

