-- ==== Sys2Proof/WellFormed.lean ====
section
/-!
DEFINITION. What is well formed: a command word (spec/30_encoding.md R60, R62, R63), field by field,
and a launch's binding (spec/93_implementation_defined.md U2). A term of `Instr` needs no check of
its own: its operand is a `Half`, so every term is a command of R62.
-/

namespace Sys2Proof

/-- R63, first clause: `op` is one of the six opcodes 0x1 to 0x6. -/
def Word.opLegal (w : Word) : Bool :=
  decide (1 ≤ (w >>> 28).toNat ∧ (w >>> 28).toNat ≤ 6)

/-- R63, second clause: the field `zero`, bits 27 to 16, holds 0. -/
def Word.zeroLegal (w : Word) : Bool :=
  w &&& 0x0FFF0000#32 == 0#32

/-- R63, third clause: a command without an operand (`RNDCH`, `ANIMS`, `ANIMF`) has `arg = 0`. -/
def Word.operandLegal (w : Word) : Bool :=
  if (w >>> 28) = 1#32 ∨ (w >>> 28) = 5#32 ∨ (w >>> 28) = 6#32 then
    w &&& 0x0000FFFF#32 == 0#32
  else
    true

/-- A legal command word: every check of R63 passes. -/
def Word.wf (w : Word) : Bool :=
  Word.opLegal w && Word.zeroLegal w && Word.operandLegal w

/-- U2: `BIND` names four distinct pads. "A launch with an ill-formed `BIND` (not four distinct
pads) is refused." -/
def Config.wf (c : Config) : Bool :=
  decide c.bind.toList.Nodup

end Sys2Proof
end

