-- ==== Sys2Proof/Machine/Turns.lean ====
section
/-!
DEFINITION. One turn of the schedule (log 4): the core's, the timebase's, a host access, reset
(spec/10_state.md R10, R13, R15; spec/20_memory.md R53, R54; spec/60_exceptions.md R145).
-/

namespace Sys2Proof.Machine

/-- `s` with the schedule at `rest`. -/
def setTurns (rest : List Turn) (s : State) : State :=
  { s with turns := rest }

/-- The core's turn: one step of the running command; in `IDLE` the core waits (R12, R23). -/
def coreTurn (s : State) : Result :=
  if s.busy then
    match currentCommand s with
    | some i => exec i s
    | none => .fault .noCommand
  else
    .next s

/-- One period of the timebase (log 2). At a `Delay` the first tick begins it, each further one counts
a period, and the last period lets the core go on; anywhere else, and while `BUSY = 0`, a period changes
nothing (R180). -/
def tickTurn (s : State) : Result :=
  match s.ph.delayAt with
  | none => .next s
  | some n =>
    if s.busy = false then .next s
    else if s.dly = 0#10 then .next (beginDelay n s)
    else if s.dly = 1#10 then coreTurn s
    else .next (countPeriod s)

/-- A host write of `CMD` (R15, R145): dropped while `BUSY = 1`; else accepted if legal; else
`IllegalCommand`. -/
def writeCommand (w : Word) (s : State) : Result :=
  if s.busy then .next s
  else
    match decode w with
    | .command i => exec i s
    | .illegal _ => .next (raiseIllegalCommand s)

/-- A host write (R15 to R18): only index 0, `CMD`, does anything. -/
def hostWrite (index : RegIndex) (w : Word) (s : State) : Result :=
  if index = 0#2 then writeCommand w s else .next s

/-- The turn `t`. -/
def takeTurn (t : Turn) (s : State) : Result :=
  match t with
  | .core => coreTurn s
  | .tick => tickTurn s
  | .read index => .next (hostRead index s)
  | .write index w => hostWrite index w s
  | .reset => .next (resetMachine s)

/-- The next turn of the schedule; past its end the core acts. -/
def nextTurn (s : State) : Result :=
  match s.turns with
  | [] => coreTurn s
  | t :: rest => takeTurn t (setTurns rest s)

/-- The word `w` of `nbits` bits is the host's next `CMD` write, and `CMD` is open (`BUSY = 0`, R15). -/
def offerWord (nbits w : Nat) (s : State) : State :=
  { s with
    turns := .write 0#2 (BitVec.ofNat 32 (w % 2 ^ nbits)) :: s.turns
    busy := false
    ph := .idle }

end Sys2Proof.Machine
end

