-- ==== Sys2Proof/Machine/Step.lean ====
section
/-!
DEFINITION. One step of the machine: the next turn. A launch with an ill-formed `BIND` is refused
(spec/93_implementation_defined.md U2; log 8).
-/

namespace Sys2Proof.Machine

/-- One step. -/
def step (s : State) : Host.Outcome State Fault Refusal :=
  if s.cfg.wf then nextTurn s else .refused .illFormedBinding

/-- `s` with the word `w` of `nbits` bits where the next step fetches its command: the host's next
write of `CMD` (R54), with `CMD` open (R15). The very next step runs it. -/
def State.withFetchWord (s : State) (nbits w : Nat) : State :=
  offerWord nbits w s

end Sys2Proof.Machine
end

