-- ==== Sys2Proof/Safety.lean ====
section
/-!
DEFINITION. What a safe run of the core is, and the words the statements are made of: the invariants of
spec/10_state.md R24 and R11, the phases of each command (R12), one command run by `exec` alone, and
the environment's answers numbered ahead of time.
-/

namespace Sys2Proof.Machine

/-- The phases of a command (the table of R12; spec/41_round.md R112). -/
def Phase.belongsTo : Instr → Phase → Bool
  | .rndch, .sample _ => true
  | .rndch, .mix => true
  | .rndrg _, .sample _ => true
  | .rndrg _, .mix => true
  | .round _, .sample _ => true
  | .round _, .mix => true
  | .round _, .showTarget _ => true
  | .round _, .await _ => true
  | .round _, .relWait _ => true
  | .round _, .resHit => true
  | .round _, .resFail => true
  | .score _, .dispEnter => true
  | .score _, .dispH _ => true
  | .score _, .dispT _ => true
  | .score _, .dispU _ => true
  | .anims, .animS _ => true
  | .animf, .animF _ => true
  | _, _ => false

/-- The phases in which the pads are outputs (R102, R120, R130, R132): `SHOW`, and the display and the
animations from their first primitive on. -/
def Phase.drives : Phase → Bool
  | .showTarget _ => true
  | .dispH _ => true
  | .dispT _ => true
  | .dispU _ => true
  | .animS place => place != .enter
  | .animF place => place != .enter
  | _ => false

/-- The phases in which the pads are inputs (R104, R105, R108): from `AWAIT` on. -/
def Phase.reads : Phase → Bool
  | .await _ => true
  | .relWait _ => true
  | .resHit => true
  | .resFail => true
  | _ => false

/-- What holds in every reachable state (R24, R16, R177). -/
structure Inv (s : State) : Prop where
  /-- R24: `MODE` in {0b0000, 0b1111} -/
  mode_uniform : s.mode = 0b0000#4 ∨ s.mode = 0b1111#4
  /-- R24: `BUSY = (PH != IDLE)` -/
  busy_iff : s.busy = true ↔ s.ph ≠ .idle
  /-- R16: `DONE = 1` implies `BUSY = 0` -/
  done_idle : s.done = true → s.busy = false
  /-- R16: `HIT = 1` implies `DONE = 1` and the last completed command was `ROUND` -/
  hit_round : s.hit = true → s.done = true ∧ s.op = 3#4
  /-- R11, R66: while a command runs, `OP` and `ARG` hold it and `PH` is one of its phases -/
  running : s.busy = true → ∃ i, currentCommand s = some i ∧ s.ph.belongsTo i = true
  /-- R24: during `AWAIT`, `CNT <= ARG` -/
  countdown : ∀ place, s.ph = .await place → s.cnt.toNat ≤ s.arg.toNat
  /-- R105: the loop delays only after a poll that `CNT != 0` allowed, so `CNT` never underflows -/
  waiting : s.ph = .await .wait → 0 < s.cnt.toNat
  /-- R104, R105: while the loop goes on no press has been seen -/
  unpressed : ∀ place, s.ph = .await place → s.btn = 0b0000#4
  /-- R24: `RESULT <= 3` after `RNDCH` -/
  result_channel : s.done = true → s.op = 1#4 → s.result.toNat ≤ 3
  /-- R24: `RESULT[15:0] <= ARG` after `RNDRG` -/
  result_range : s.done = true → s.op = 2#4 → s.result.toNat ≤ s.arg.toNat
  /-- R24, R109: `RESULT <= 1` after `ROUND`, and it is `HIT` -/
  result_round : s.done = true → s.op = 3#4 → s.result = (BitVec.ofBool s.hit).setWidth 16
  /-- R177: the pads are outputs while the core drives LEDs -/
  driving : s.ph.drives = true → s.mode = 0b1111#4
  /-- R177: the pads are inputs while the core reads buttons -/
  reading : s.ph.reads = true → s.mode = 0b0000#4
  /-- R46: `DLY` counts only in a `Delay`, and from that delay's argument down -/
  delaying : s.dly ≠ 0#10 → ∃ n, s.ph.delayAt = some n ∧ s.dly.toNat ≤ n

/-- The ranges of the scratch registers (R11, R24), with what keeps them. -/
structure ScratchInv (s : State) : Prop where
  /-- `SCNT`, 0..25 -/
  scnt_le : s.scnt.toNat ≤ 25
  /-- in the loop of R82 fewer than 25 samples have been taken -/
  scnt_lt : s.ph = .sample .accumulate → s.scnt.toNat < 25
  /-- `DIGH`, 0..655 -/
  digH_le : s.digH.toNat ≤ 655
  /-- `DIGT`, 0..9 -/
  digT_le : s.digT.toNat ≤ 9
  /-- `DIGU`, 0..9 -/
  digU_le : s.digU.toNat ≤ 9
  /-- `BLK` never counts more blinks than the largest digit has -/
  blk_le : s.blk.toNat ≤ 655
  /-- inside a blink one blink remains at least (R123) -/
  blk_pos : ∀ place, place ≠ .test →
    s.ph = .dispH place ∨ s.ph = .dispT place ∨ s.ph = .dispU place → 0 < s.blk.toNat
  /-- `REP`, 0..2 -/
  rep_le : s.rep.toNat ≤ 2
  /-- in a sweep of R131 fewer than 2 repetitions are done -/
  rep_lt_start : ∀ place, s.ph = .animS place →
    place ≠ .enter ∧ place ≠ .pause ∧ place ≠ .finish → s.rep.toNat < 2
  /-- in a repetition of R133 fewer than 2 are done -/
  rep_lt_fail : ∀ place, s.ph = .animF place → place ≠ .enter ∧ place ≠ .finish → s.rep.toNat < 2
  /-- `IDX`, 0..4 -/
  idx_le : s.idx.toNat ≤ 4
  /-- in a sweep of R131 the index names a channel -/
  idx_lt : ∀ place, s.ph = .animS place →
    place ≠ .enter ∧ place ≠ .pause ∧ place ≠ .finish → s.idx.toNat < 4

/-- The phase changes the spec allows, by code (the table of R12; R112), reset apart. -/
def phaseEdges : List (BitVec 4 × BitVec 4) :=
  [(0#4, 1#4), (0#4, 8#4), (0#4, 11#4), (0#4, 12#4),
   (1#4, 2#4), (2#4, 0#4), (2#4, 3#4), (3#4, 4#4),
   (4#4, 5#4), (4#4, 7#4), (5#4, 6#4), (5#4, 7#4), (6#4, 0#4), (7#4, 0#4),
   (8#4, 9#4), (9#4, 10#4), (10#4, 0#4), (11#4, 0#4), (12#4, 0#4)]

/-- `k` steps of the command `i` by `exec` alone: from a state with `BUSY = 0`, its accept and then
its primitives, one after another. -/
def runCommand (i : Instr) : Nat → State → Result
  | 0, s => .next s
  | k + 1, s =>
    match exec i s with
    | .next t => runCommand i k t
    | .fault r => .fault r
    | .refused r => .refused r

/-! ### The environment's answers to one random request that starts now (R81, R82) -/

/-- How many questions R81 asks: one `Draw16()`, or none. -/
def seedQuestions (s : State) : Nat :=
  match s.cfg.seedInit with
  | .draw => 1
  | .zero => 0

/-- The value R81 writes: `s0` of R82. -/
def initialSeed (s : State) : Half :=
  match s.cfg.seedInit with
  | .draw => drawNow s
  | .zero => 0#16

/-- `v_k` of R82: the `k`-th sample of the request. -/
def sampleAhead (s : State) (k : Nat) : Half :=
  sampleOf s.cfg.adcWidth
    ((s.samples[k]?).getD (Config.freeSample (s.fresh + seedQuestions s + k)))

/-- `s0 xor v_0 xor ... xor v_(n-1)` (R82). -/
def accumulated (s : State) (n : Nat) : Half :=
  (List.range n).foldl (fun acc k => acc ^^^ sampleAhead s k) (initialSeed s)

/-- The events of R81: `Draw(s0)`, or none. -/
def seedEvents (s : State) : List Event :=
  match s.cfg.seedInit with
  | .draw => [.draw (drawNow s)]
  | .zero => []

/-- The events of the whole request: `[Draw(s0);] Adc(v_0); ...; Adc(v_24)` (R82, R88). -/
def requestEvents (s : State) : List Event :=
  seedEvents s ++ (List.range 25).map fun k => .adc (sampleAhead s k)

/-- The seed draws that remain after R81. -/
def drawsAfter (s : State) : List Half :=
  match s.cfg.seedInit with
  | .draw => s.draws.tail
  | .zero => s.draws

/-- The pressed vector the `k`-th `PinReadAll()` from now returns when `asked` other questions come
before it (R44). -/
def pressedAfter (asked : Nat) (s : State) (k : Nat) : Pads :=
  pressedOf ((s.pads[k]?).getD (Config.freePads (s.fresh + asked + k)))

/-- The pressed vector the `k`-th `PinReadAll()` of a round that starts now returns (R105, R108): the
key draw's questions come before it. -/
def pressedAhead (s : State) (k : Nat) : Pads :=
  pressedAfter (seedQuestions s + 25) s k

/-! ### Traces of the blocks -/

/-- `n` copies of a list of events, one after another. -/
def times (n : Nat) (es : List Event) : List Event :=
  (List.replicate n es).flatten

/-- One blink of channel `c` (R55). -/
def blink (c : Channel) : List Event :=
  [.led c true, .delay 200, .led c false, .delay 200]

/-- One repetition of the start sequence (R131). -/
def startSweeps : List Event :=
  [.led 0 false, .delay 100, .led 1 false, .delay 100, .led 2 false, .delay 100,
   .led 3 false, .delay 100, .led 0 true, .delay 100, .led 1 true, .delay 100,
   .led 2 true, .delay 100, .led 3 true, .delay 100]

/-- One repetition of the fail sequence (R133). -/
def failFlash : List Event :=
  [.ledAll 0b1111, .delay 250, .ledAll 0b0000, .delay 250]

/-- The trace of `SHOW` and of the entry of `AWAIT` (R102 to R104), for the key `k`. -/
def showEvents (k : Channel) : List Event :=
  [.modeAll .output, .led k true, .delay 50, .ledAll 0b0000, .modeAll .input]

end Sys2Proof.Machine
end

