-- ==== Sys2Proof/Certificates/Slice0/Obligations.lean ====
section
/-!
DEFINITION. The statements for the provers. Each docstring names the rules of spec/ it comes from.
Where a statement has a premise `s.dly = 0#10`, it says that no `Delay` is in progress; `Inv.delaying`
gives it in every state that is not at a delay.
-/

open Sys2Proof Sys2Proof.Machine

/-! ## The command word (spec/30_encoding.md) -/

/-- The worked encodings of R70, and the illegal words it lists. -/
def Obligations.WorkedEncodingsDecode : Prop :=
  decode 0x10000000#32 = .command .rndch ∧
  decode 0x20000064#32 = .command (.rndrg 100) ∧
  decode 0x20000000#32 = .command (.rndrg 0) ∧
  decode 0x30000032#32 = .command (.round 50) ∧
  decode 0x30000000#32 = .command (.round 0) ∧
  decode 0x40000131#32 = .command (.score 305) ∧
  decode 0x400003E7#32 = .command (.score 999) ∧
  decode 0x4000FFFF#32 = .command (.score 65535) ∧
  decode 0x50000000#32 = .command .anims ∧
  decode 0x60000000#32 = .command .animf ∧
  (decode 0x00000000#32).instr = none ∧
  (decode 0x10000001#32).instr = none ∧
  (decode 0x30010032#32).instr = none ∧
  (decode 0x70000000#32).instr = none ∧
  (decode 0x50000004#32).instr = none

/-- R60 to R64: decoding the word of a command gives the command back, every operand at every value;
and so does the decoder on the opcode table's numbering of the bits. -/
def Obligations.DecodeOfEncodeIsIdentity : Prop :=
  ∀ i : Instr, decode (encode i) = .command i ∧ decodeTableWord 32 (encode i).toNat = some i

/-- R62, R64: a word is the command iff `(w and mask) = match`, with `arg = w[15:0]`. -/
def Obligations.DecodeIsMaskAndMatch : Prop :=
  ∀ (w : Word) (i : Instr),
    decode w = .command i ↔ (w &&& maskOf i = matchOf i ∧ operandOf i = w.extractLsb' 0 16)

/-- R63: which words are illegal, field by field, and that they are those WellFormed.lean refuses. -/
def Obligations.IllegalWordsByField : Prop :=
  ∀ w : Word,
    ((decode w).instr = none ↔
      (w.toNat / 2 ^ 28 = 0 ∨ 7 ≤ w.toNat / 2 ^ 28 ∨ w.toNat / 2 ^ 16 % 2 ^ 12 ≠ 0 ∨
        ((w.toNat / 2 ^ 28 = 1 ∨ w.toNat / 2 ^ 28 = 5 ∨ w.toNat / 2 ^ 28 = 6) ∧
          w.toNat % 2 ^ 16 ≠ 0))) ∧
    ((decode w).instr = none ↔ Word.wf w = false)

/-! ## Steps, turns and the host interface -/

/-- R15, R54, R64, R66: when the host's write of a legal word to `CMD` is next and `BUSY = 0`, the step
is `exec` of the decoded command; when the core's turn is next and a command is in progress, the step
is `exec` of that command (with the schedule moved on).
The model's own, and no rule of the spec: that the turns stand in a schedule, and that the core acts when
it is empty (log 4); and the last clause, that `withFetchWord` opens `CMD` (`BUSY = 0`, `PH = IDLE`) and
puts the write of the word at the head of the schedule, so that the very next step runs it (log 12; R15
drops a word while `BUSY = 1`). -/
def Obligations.StepRunsDecodedCommand : Prop :=
  (∀ (s : State) (w : Word) (i : Instr) (rest : List Turn),
    s.cfg.wf = true → s.busy = false → s.turns = .write 0 w :: rest → decode w = .command i →
      step s = exec i { s with turns := rest }) ∧
  (∀ (s : State) (i : Instr),
    s.cfg.wf = true → s.busy = true → currentCommand s = some i →
      (s.turns = [] → step s = exec i s) ∧
      (∀ rest, s.turns = .core :: rest → step s = exec i { s with turns := rest })) ∧
  (∀ (s : State) (i : Instr),
    s.cfg.wf = true →
      step (s.withFetchWord 32 (encode i).toNat) = exec i { s with busy := false, ph := .idle })

/-- R66: accept, for every command and every state with `BUSY = 0`, a set `ERR` among them; and the host's
write of the command's word to `CMD` does exactly this. The accepted command is the one in progress from
then on. -/
def Obligations.AcceptStartsTheCommand : Prop :=
  ∀ (i : Instr) (s : State), s.busy = false →
    ∃ t, exec i s = .next t ∧
      t = { s with
        op := (encode i).extractLsb' 28 4
        arg := (encode i).extractLsb' 0 16
        busy := true, done := false, hit := false, result := 0, ph := t.ph } ∧
      t.ph = (match i with
        | .rndch => .sample .seedInit
        | .rndrg _ => .sample .seedInit
        | .round _ => .sample .seedInit
        | .score _ => .dispEnter
        | .anims => .animS .enter
        | .animf => .animF .enter) ∧
      t.ph.code = (match i with
        | .rndch => 1
        | .rndrg _ => 1
        | .round _ => 1
        | .score _ => 8
        | .anims => 11
        | .animf => 12) ∧
      currentCommand t = some i ∧
      (s.cfg.wf = true → step { s with turns := .write 0 (encode i) :: s.turns } = .next t)

/-- R65: an illegal word written to `CMD` sets `ERR` while `BUSY = 0` and changes nothing else; while
`BUSY = 1` it is dropped and does not set `ERR`. -/
def Obligations.IllegalWordSetsErrOnly : Prop :=
  ∀ (s : State) (w : Word) (rest : List Turn),
    s.cfg.wf = true → s.turns = .write 0 w :: rest → (decode w).instr = none →
      (s.busy = false → step s = .next { s with turns := rest, err := true }) ∧
      (s.busy = true → step s = .next { s with turns := rest })

/-- R15, R54: every `CMD` write while `BUSY = 1`, of a legal word or not, is dropped: no state changes,
no flag is set. -/
def Obligations.BusyCommandWriteIsDropped : Prop :=
  ∀ (s : State) (w : Word) (rest : List Turn),
    s.cfg.wf = true → s.busy = true → s.turns = .write 0 w :: rest →
      step s = .next { s with turns := rest }

/-- R142: `ERR` stays set through every step but reset, and it stops no command: with `ERR` set `exec`
does what it does without, every other register alike. -/
def Obligations.ErrIsStickyAndHarmless : Prop :=
  (∀ s t : State, step s = .next t → s.err = true →
    t.err = true ∨ ∃ rest, s.turns = .reset :: rest) ∧
  (∀ (i : Instr) (s t : State), exec i s = .next t →
    exec i { s with err := true } = .next { t with err := true })

/-- R15 to R18: what a host read returns at each index, and that it changes nothing but the schedule
and the host's own record; a write of `STATUS`, `RESULT` or index 3 is ignored. -/
def Obligations.HostAccessesOtherThanCommand : Prop :=
  ∀ (s : State) (rest : List Turn), s.cfg.wf = true →
    (∀ x : RegIndex, s.turns = .read x :: rest →
      ∃ v : Word, step s = .next { s with turns := rest, reads := s.reads ++ [⟨x, v⟩] } ∧
        (x = 0 → v = 0) ∧ (x = 3 → v = 0) ∧
        (x = 2 → v.toNat = s.result.toNat) ∧
        (x = 1 → v.getLsbD 0 = s.busy ∧ v.getLsbD 1 = s.done ∧ v.getLsbD 2 = s.hit ∧
          v.getLsbD 3 = s.err ∧ v.extractLsb' 4 4 = s.ph.code ∧ v.extractLsb' 8 24 = 0)) ∧
    (∀ (x : RegIndex) (w : Word), x ≠ 0 → s.turns = .write x w :: rest →
      step s = .next { s with turns := rest })

/-- R23, R160, R161: reset, from every state and whatever the core was doing. -/
def Obligations.ResetGivesTheResetValues : Prop :=
  ∀ (s : State) (rest : List Turn), s.cfg.wf = true → s.turns = .reset :: rest →
    ∃ t, step s = .next t ∧
      t.ph = .idle ∧ t.busy = false ∧ t.done = false ∧ t.hit = false ∧ t.err = false ∧
      t.result = 0 ∧ t.op = 0 ∧ t.arg = 0 ∧ t.seed = 0 ∧ t.tmp = 0 ∧ t.key = 0 ∧ t.cnt = 0 ∧
      t.btn = 0 ∧ t.scnt = 0 ∧ t.digH = 0 ∧ t.digT = 0 ∧ t.digU = 0 ∧ t.blk = 0 ∧ t.rep = 0 ∧
      t.idx = 0 ∧ t.dly = 0 ∧ t.mode = 0b0000 ∧ t.led = 0b0000 ∧ t.trace = []

/-- R13, R67, R160: a running command stops running by its completion or by reset and in no other way;
a completion leaves `PH = IDLE` and `DONE = 1`. -/
def Obligations.OnlyCompletionOrResetEndsACommand : Prop :=
  ∀ s t : State, step s = .next t → s.busy = true → t.busy = false →
    (t.done = true ∧ t.ph = .idle) ∨ ∃ rest, s.turns = .reset :: rest

/-- R14, R17, R66, R67: when the flags, `RESULT`, `OP` and `ARG` can change. At every step: `OP` and `ARG`
only at a legal `CMD` write with `BUSY = 0` or at reset; `DONE`, `HIT` and `RESULT` only there or at a
completion (`BUSY` from 1 to 0, with `DONE = 1`); `ERR` only at an illegal `CMD` write with `BUSY = 0` or
at reset. And no command's own step writes `ERR`, the parameters, the schedule or the host's record (the
last three are the model's own fields, logs 4, 6, 7). -/
def Obligations.FlagsChangeOnlyAtAcceptAndCompletion : Prop :=
  (∀ s t : State, step s = .next t → (∀ rest, s.turns ≠ .reset :: rest) →
    (t.op ≠ s.op ∨ t.arg ≠ s.arg →
      s.busy = false ∧ ∃ w i rest, s.turns = .write 0 w :: rest ∧ decode w = .command i) ∧
    (t.done ≠ s.done ∨ t.hit ≠ s.hit ∨ t.result ≠ s.result →
      (s.busy = false ∧ ∃ w i rest, s.turns = .write 0 w :: rest ∧ decode w = .command i) ∨
      (s.busy = true ∧ t.busy = false ∧ t.done = true)) ∧
    (t.err ≠ s.err → t.err = true ∧ s.busy = false ∧
      ∃ w rest, s.turns = .write 0 w :: rest ∧ (decode w).instr = none)) ∧
  (∀ (i : Instr) (s t : State), exec i s = .next t →
    t.err = s.err ∧ t.cfg = s.cfg ∧ t.turns = s.turns ∧ t.reads = s.reads ∧
    (s.busy = true → t.op = s.op ∧ t.arg = s.arg) ∧
    (s.busy = true → t.busy = true → t.done = s.done ∧ t.hit = s.hit ∧ t.result = s.result))

/-- R52, R55: a step appends at most one event to the trace and takes none back, reset apart. -/
def Obligations.StepAppendsAtMostOneEvent : Prop :=
  ∀ s t : State, step s = .next t → (∀ rest, s.turns ≠ .reset :: rest) →
    t.trace = s.trace ∨ ∃ e, t.trace = s.trace ++ [e]

/-! ## Invariants (spec/10_state.md R11, R12, R24) -/

/-- R23, R24: the state after reset meets both invariants. -/
def Obligations.ResetMeetsTheInvariants : Prop :=
  Inv State.reset ∧ ScratchInv State.reset

/-- R24, R16, R177: every step keeps the invariant of the reachable states. -/
def Obligations.StepKeepsReachableStateInvariant : Prop :=
  ∀ s t : State, Inv s → step s = .next t → Inv t

/-- R11: every step keeps the scratch registers in their ranges. -/
def Obligations.StepKeepsScratchRanges : Prop :=
  ∀ s t : State, ScratchInv s → step s = .next t → ScratchInv t

/-- R140, R68; U2 of spec/93_implementation_defined.md: from every state of the invariant the step answers
a next state, and the one thing that ever stops the machine is a launch whose `BIND` is not four
distinct pads: it is refused. -/
def Obligations.NoStepStopsTheMachine : Prop :=
  (∀ s : State, Inv s → s.cfg.wf = true → ∃ t, step s = .next t) ∧
  (∀ s : State, s.cfg.bind.toList.Nodup ↔ s.cfg.wf = true) ∧
  (∀ s : State, s.cfg.wf = false → step s = .refused .illFormedBinding)

/-- R12, R13, R112: every change of `PH` is one the tables list, reset apart. -/
def Obligations.PhaseChangesAreTheListedOnes : Prop :=
  ∀ s t : State, Inv s → step s = .next t → (∀ rest, s.turns ≠ .reset :: rest) →
    t.ph.code = s.ph.code ∨ (s.ph.code, t.ph.code) ∈ phaseEdges

/-- R177, R44: the core reads the pads only while they are inputs and writes the latches only while they
are outputs. -/
def Obligations.PadsAreNeverDrivenAndReadAtOnce : Prop :=
  ∀ s t : State, Inv s → step s = .next t →
    (∀ v, t.trace = s.trace ++ [.btn v] → s.mode = 0b0000) ∧
    (∀ c b, t.trace = s.trace ++ [.led c b] → s.mode = 0b1111) ∧
    (∀ v, t.trace = s.trace ++ [.ledAll v] → s.mode = 0b1111)

/-! ## The primitives (spec/20_memory.md, spec/10_state.md R19) -/

/-- R41, R42, R43: the three pin writes: the `MODE` bits together, one latch and not the other three,
the four latches together, each with its event and nothing else. -/
def Obligations.PinWritesChangeWhatTheyName : Prop :=
  ∀ s : State,
    pinModeAll .input s = { s with mode := 0b0000, trace := s.trace ++ [.modeAll .input] } ∧
    pinModeAll .output s = { s with mode := 0b1111, trace := s.trace ++ [.modeAll .output] } ∧
    (∀ v, pinWriteAll v s = { s with led := v, trace := s.trace ++ [.ledAll v] }) ∧
    (∀ (c : Channel) (b : Bool), ∃ l : Pads,
      pinWrite c b s = { s with led := l, trace := s.trace ++ [.led c b] } ∧
      ∀ j : Channel, l.getLsbD j.toNat = if j = c then b else s.led.getLsbD j.toNat)

/-- R44, R45, R47: what the three questions to the environment return and change. A pressed bit is 1
iff its pad reads Low; a narrow raw sample is zero-extended and a wide one truncated.
The model's own, and no rule of the spec: that the answers stand in lists with a counter beside them
(log 5), that the pads are answered as levels (log 18), and that a raw sample is any number kept to its
low `ADC_W` bits (log 13). -/
def Obligations.EnvironmentAnswersAsTheSpecReadsThem : Prop :=
  ∀ s : State,
    pinReadAll s = { s with
      pads := s.pads.tail, fresh := s.fresh + 1, trace := s.trace ++ [.btn (pressedNow s)] } ∧
    adcSample s = { s with
      samples := s.samples.tail, fresh := s.fresh + 1, trace := s.trace ++ [.adc (sampleNow s)] } ∧
    draw16 s = { s with
      draws := s.draws.tail, fresh := s.fresh + 1, trace := s.trace ++ [.draw (drawNow s)] } ∧
    (∀ (levels : Pads) (rest : List Pads) (c : Channel), s.pads = levels :: rest →
      (pressedNow s).getLsbD c.toNat = !levels.getLsbD c.toNat) ∧
    (∀ (raw : Nat) (rest : List Nat), s.samples = raw :: rest →
      (s.cfg.adcWidth ≤ 16 → (sampleNow s).toNat = raw % 2 ^ s.cfg.adcWidth) ∧
      (16 < s.cfg.adcWidth → (sampleNow s).toNat = raw % 2 ^ 16)) ∧
    (∀ (v : Half) (rest : List Half), s.draws = v :: rest → drawNow s = v)

/-- R19: an output pad is driven to `LED_ON_LEVEL` when its latch is lit and to the opposite level when
not; an input pad is not driven. -/
def Obligations.PadsAreDrivenFromTheLatches : Prop :=
  ∀ (s : State) (c : Channel),
    (s.mode = 0b0000 → padDrive s c = none) ∧
    (s.mode = 0b1111 → s.led.getLsbD c.toNat = true → padDrive s c = some s.cfg.ledOnLevel) ∧
    (s.mode = 0b1111 → s.led.getLsbD c.toNat = false →
      ∃ l, padDrive s c = some l ∧ l ≠ s.cfg.ledOnLevel)

/-- R46, R149: a `Delay(n)` walked by `n + 1` ticks of the timebase ends in the state the core's one
step for it gives: one event, `DLY` back at 0. And so does one that `k` ticks (`1 <= k <= n`) have begun
and counted down and a core turn then finishes. The ticks, and that a core turn finishes a delay at once,
are the model's choice (log 2). -/
def Obligations.TickedDelayEqualsDelayInOneStep : Prop :=
  ∀ (s : State) (i : Instr) (n : Nat) (rest : List Turn),
    s.cfg.wf = true → s.busy = true → currentCommand s = some i → s.ph.belongsTo i = true →
    s.ph.delayAt = some n → s.dly = 0 →
      Host.Core.run core (n + 1) { s with turns := List.replicate (n + 1) .tick ++ rest } =
        step { s with turns := .core :: rest } ∧
      ∀ k, 1 ≤ k → k ≤ n →
        Host.Core.run core (k + 1) { s with turns := List.replicate k .tick ++ .core :: rest } =
          step { s with turns := .core :: rest }

/-- R46: while a command is at a delay, a tick of the timebase changes only `DLY`, and appends the delay's
event if it is the first; no pin is read or written and `STATUS` keeps reading `BUSY = 1` with the phase
that issued the delay. What a tick does elsewhere `IdleCoreWaitsForALegalCommand` says.
The ticks are the model's choice (log 2). -/
def Obligations.OnlyTheDelayCounterMovesDuringADelay : Prop :=
  ∀ (s : State) (n : Nat) (rest : List Turn),
    s.cfg.wf = true → s.busy = true → s.turns = .tick :: rest → s.ph.delayAt = some n →
      (s.dly = 0 → step s = .next
        { s with turns := rest, dly := BitVec.ofNat 10 n, trace := s.trace ++ [.delay n] }) ∧
      (1 < s.dly.toNat → step s = .next { s with turns := rest, dly := s.dly - 1 })

/-! ## The generator (spec/40_entropy.md) -/

/-- R83: the linear-congruential step, the bound of its exact product, and its worked values. -/
def Obligations.LcgStepWrapsToSixteenBits : Prop :=
  (∀ x : Half, (lcg x).toNat = (2053 * x.toNat + 13849) % 65536 ∧
    2053 * x.toNat + 13849 ≤ 134557204) ∧
  lcg 0x0000 = 0x3619 ∧ lcg 0x0001 = 0x3E1E ∧ lcg 0xFFFF = 0x2E14 ∧ lcg 0x021F = 0x38B4

/-- R84, R85: the channel fold as its three cascaded rounds and in closed form, the channel as its two
low bits, and as the parities of the even and the odd bits of `SEED`. -/
def Obligations.ChannelIsTheParityOfSeedBits : Prop :=
  (∀ x : Half,
    (∃ t u : Half, t = x ^^^ (x >>> 8) ∧ u = t ^^^ (t >>> 4) ∧ channelFold x = u ^^^ (u >>> 2)) ∧
    channelFold x = x ^^^ (x >>> 2) ^^^ (x >>> 4) ^^^ (x >>> 6) ^^^ (x >>> 8) ^^^ (x >>> 10) ^^^
      (x >>> 12) ^^^ (x >>> 14) ∧
    (channelOf x).toNat = x.toNat % 4 ∧
    (channelOf (channelFold x)).getLsbD 0 =
      ((List.range 8).foldl (fun p k => p ^^ x.getLsbD (2 * k)) false) ∧
    (channelOf (channelFold x)).getLsbD 1 =
      ((List.range 8).foldl (fun p k => p ^^ x.getLsbD (2 * k + 1)) false)) ∧
  channelFold 0x38B4 = 0x35C5 ∧ channelOf 0x35C5 = 1

/-- R86: the range fold as its three cascaded rounds, the first of which changes nothing, and in closed
form; its worked value. -/
def Obligations.RangeFoldClosedForm : Prop :=
  (∀ x : Half,
    (∃ t u : Half, t = x ^^^ (x >>> 16) ∧ u = t ^^^ (t >>> 8) ∧ rangeFold x = u ^^^ (u >>> 4)) ∧
    x ^^^ (x >>> 16) = x ∧
    rangeFold x = x ^^^ (x >>> 4) ^^^ (x >>> 8) ^^^ (x >>> 12)) ∧
  rangeFold 0x66C9 = 0x60C5

/-- R87: the scaling is the exact floor of a product that fits 32 bits; its corner cases and its worked
value. -/
def Obligations.RangeScalingIsTheExactFloor : Prop :=
  (∀ r x : Half,
    r.toNat * x.toNat < 2 ^ 32 ∧
    r.toNat * x.toNat / 65535 ≤ r.toNat ∧
    (scale r x).toNat = r.toNat * x.toNat / 65535 ∧
    scale 0 x = 0 ∧ scale r 0 = 0 ∧ scale r 65535 = r ∧ scale 65535 x = x ∧
    (x ≠ 65535 → scale 1 x = 0) ∧
    (x ≠ 65535 → 1 ≤ r.toNat → (scale r x).toNat ≤ r.toNat - 1)) ∧
  scale 100 0x60C5 = 37

/-- R93: the output range of `RNDRG`. -/
def Obligations.RangeResultStaysWithinTheRange : Prop :=
  ∀ r x : Half,
    (scale r x).toNat ≤ r.toNat ∧ (scale r x = r ↔ r = 0 ∨ x = 65535)

/-- R92 (1), (2), (4): the LCG map and both folds are bijections on 16-bit values, and the only seeds
that fold to all ones and to zero. -/
def Obligations.MixingLosesNoSeed : Prop :=
  Function.Bijective lcg ∧ Function.Bijective channelFold ∧ Function.Bijective rangeFold ∧
  (∀ x : Half, rangeFold (lcg x) = 0xFFFF ↔ x = 0xF9FB) ∧
  (∀ x : Half, rangeFold (lcg x) = 0x0000 ↔ x = 0xC9FB)

/-- R80 to R82: one step of a random request, the same for its three commands: the seed's initial value,
then one sample a step, and `MIX` after the 25th.
Which assignments share a step is the model's choice (log 1). -/
def Obligations.RandomRequestTakesOneSampleAStep : Prop :=
  ∀ (i : Instr) (s : State),
    (i = .rndch ∨ (∃ r, i = .rndrg r) ∨ ∃ b, i = .round b) → s.busy = true →
    (s.ph = .sample .seedInit → s.cfg.seedInit = .draw →
      exec i s = .next { s with
        seed := drawNow s, scnt := 0, ph := .sample .accumulate
        draws := s.draws.tail, fresh := s.fresh + 1, trace := s.trace ++ [.draw (drawNow s)] }) ∧
    (s.ph = .sample .seedInit → s.cfg.seedInit = .zero →
      exec i s = .next { s with
        seed := sampleNow s, scnt := 1, ph := .sample .accumulate
        samples := s.samples.tail, fresh := s.fresh + 1
        trace := s.trace ++ [.adc (sampleNow s)] }) ∧
    (s.ph = .sample .accumulate → s.scnt.toNat < 25 →
      exec i s = .next { s with
        seed := s.seed ^^^ sampleNow s, scnt := s.scnt + 1
        ph := if s.scnt.toNat + 1 = 25 then .mix else .sample .accumulate
        samples := s.samples.tail, fresh := s.fresh + 1
        trace := s.trace ++ [.adc (sampleNow s)] })

/-- R88, R89, R83 to R87, R67: in `MIX`, `RNDCH` completes with its channel and `RNDRG` with the value
scaled into the range in `ARG`.
Which assignments share a step is the model's choice (log 1). -/
def Obligations.RandomCommandsCompleteInMix : Prop :=
  ∀ (r : Half) (s : State), s.busy = true → s.ph = .mix →
    exec .rndch s = .next { s with
      seed := lcg s.seed, tmp := channelFold (lcg s.seed)
      result := (channelOf (channelFold (lcg s.seed))).setWidth 16
      hit := false, done := true, busy := false, ph := .idle } ∧
    exec (.rndrg r) s = .next { s with
      seed := lcg s.seed, tmp := rangeFold (lcg s.seed)
      result := scale s.arg (rangeFold (lcg s.seed))
      hit := false, done := true, busy := false, ph := .idle }

/-- R88: the whole of `RNDCH`, from accept to completion, for every state with `BUSY = 0` and whatever
the environment answers: what every register holds afterwards, and the trace.
The number of steps is the model's choice (log 1). -/
def Obligations.RndchRunsFromAcceptToCompletion : Prop :=
  ∀ s : State, s.busy = false →
    runCommand .rndch (seedQuestions s + 27) s = .next { s with
      op := 0x1, arg := 0, scnt := 25
      seed := lcg (accumulated s 25), tmp := channelFold (lcg (accumulated s 25))
      result := (channelOf (channelFold (lcg (accumulated s 25)))).setWidth 16
      hit := false, done := true, busy := false, ph := .idle
      samples := s.samples.drop 25, draws := drawsAfter s
      fresh := s.fresh + seedQuestions s + 25
      trace := s.trace ++ requestEvents s }

/-- R89: the whole of `RNDRG range`, from accept to completion.
The number of steps is the model's choice (log 1). -/
def Obligations.RndrgRunsFromAcceptToCompletion : Prop :=
  ∀ (r : Half) (s : State), s.busy = false →
    runCommand (.rndrg r) (seedQuestions s + 27) s = .next { s with
      op := 0x2, arg := r, scnt := 25
      seed := lcg (accumulated s 25), tmp := rangeFold (lcg (accumulated s 25))
      result := BitVec.ofNat 16 (r.toNat * (rangeFold (lcg (accumulated s 25))).toNat / 65535)
      hit := false, done := true, busy := false, ph := .idle
      samples := s.samples.drop 25, draws := drawsAfter s
      fresh := s.fresh + seedQuestions s + 25
      trace := s.trace ++ requestEvents s }

/-- R88, R89: what `RNDCH` and `RNDRG` leave alone: `KEY`, the countdown, the pressed vector, the pins,
the digits, the animation's counters, the delay. -/
def Obligations.RandomCommandsLeaveTheRestAlone : Prop :=
  ∀ (i : Instr) (s t : State), (i = .rndch ∨ ∃ r, i = .rndrg r) → exec i s = .next t →
    t.key = s.key ∧ t.cnt = s.cnt ∧ t.btn = s.btn ∧ t.mode = s.mode ∧ t.led = s.led ∧
    t.digH = s.digH ∧ t.digT = s.digT ∧ t.digU = s.digU ∧ t.blk = s.blk ∧ t.rep = s.rep ∧
    t.idx = s.idx ∧ t.dly = s.dly ∧ t.pads = s.pads ∧
    (s.ph ≠ .mix → t.tmp = s.tmp) ∧
    (s.busy = false → t.seed = s.seed ∧ t.tmp = s.tmp ∧ t.scnt = s.scnt ∧ t.trace = s.trace)

/-! ## The round (spec/41_round.md) -/

/-- R101 to R103: from the key to dark pads, one primitive a step: `KEY` is written and the pads become
outputs; `LED[KEY]` and no other latch is lit; 50 ms; all four off.
Which assignments share a step is the model's choice (log 1). -/
def Obligations.RoundShowsItsKey : Prop :=
  ∀ (b : Half) (s : State), s.busy = true →
    (s.ph = .mix →
      exec (.round b) s = .next { s with
        seed := lcg s.seed, tmp := channelFold (lcg s.seed)
        key := channelOf (channelFold (lcg s.seed))
        mode := 0b1111, ph := .showTarget .assert, trace := s.trace ++ [.modeAll .output] }) ∧
    (s.ph = .showTarget .assert →
      exec (.round b) s = .next { s with
        led := withLatch s.led s.key true, ph := .showTarget .hold
        trace := s.trace ++ [.led s.key true] }) ∧
    (s.ph = .showTarget .hold → s.dly = 0 →
      exec (.round b) s = .next { s with
        ph := .showTarget .deassert, trace := s.trace ++ [.delay 50] }) ∧
    (s.ph = .showTarget .deassert →
      exec (.round b) s = .next { s with
        led := 0b0000, ph := .showTarget .leave, trace := s.trace ++ [.ledAll 0b0000] })

/-- R104: the entry of `AwaitInput`.
That `PH <- AWAIT`, `CNT <- ARG` and `BTN <- 0000` share the step of `PinModeAll(IN)` is the model's choice
(log 1). -/
def Obligations.AwaitInputLoadsTheCountdown : Prop :=
  ∀ (b : Half) (s : State), s.busy = true → s.ph = .showTarget .leave →
    exec (.round b) s = .next { s with
      ph := .await .test, mode := 0b0000, cnt := s.arg, btn := 0b0000
      trace := s.trace ++ [.modeAll .input] }

/-- R105, R106, R108: one turn of the poll loop. With no press: one poll, then `Delay(1)` and one off
the countdown; at 0, Timeout, with no release wait. With a press the outcome is decided at once, on the
lowest pressed button, with no delay and the countdown not touched.
Which assignments share a step is the model's choice (log 1). -/
def Obligations.PollLoopDecidesTheOutcome : Prop :=
  ∀ (b : Half) (s : State), s.busy = true →
    (s.ph = .await .test → s.cnt = 0 → s.btn = 0b0000 →
      exec (.round b) s = .next { s with ph := .resFail }) ∧
    (s.ph = .await .test → s.cnt ≠ 0 →
      ∃ p, exec (.round b) s = .next { s with
          btn := pressedNow s, ph := p, pads := s.pads.tail, fresh := s.fresh + 1
          trace := s.trace ++ [.btn (pressedNow s)] } ∧
        (pressedNow s = 0b0000 → p = .await .wait) ∧
        (pressedNow s ≠ 0b0000 → lsbIndex (pressedNow s) = s.key → p = .relWait .hit) ∧
        (pressedNow s ≠ 0b0000 → lsbIndex (pressedNow s) ≠ s.key → s.cfg.relWaitMiss = true →
          p = .relWait .fail) ∧
        (pressedNow s ≠ 0b0000 → lsbIndex (pressedNow s) ≠ s.key → s.cfg.relWaitMiss = false →
          p = .resFail)) ∧
    (s.ph = .await .wait → s.dly = 0 →
      exec (.round b) s = .next { s with
        cnt := s.cnt - 1, ph := .await .test, trace := s.trace ++ [.delay 1] })

/-- R107: `lsb_index` as a table. -/
def Obligations.LowestPressedButtonTable : Prop :=
  lsbIndex 0b0001 = 0 ∧ lsbIndex 0b0010 = 1 ∧ lsbIndex 0b0011 = 0 ∧ lsbIndex 0b0100 = 2 ∧
  lsbIndex 0b0101 = 0 ∧ lsbIndex 0b0110 = 1 ∧ lsbIndex 0b0111 = 0 ∧ lsbIndex 0b1000 = 3 ∧
  lsbIndex 0b1001 = 0 ∧ lsbIndex 0b1010 = 1 ∧ lsbIndex 0b1011 = 0 ∧ lsbIndex 0b1100 = 2 ∧
  lsbIndex 0b1101 = 0 ∧ lsbIndex 0b1110 = 1 ∧ lsbIndex 0b1111 = 0

/-- R108, R109: one poll of the release wait: no delay, the countdown not touched; it ends only when all
four buttons are up, and the outcome already decided stands.
That `PH <- RES_HIT` or `PH <- RES_FAIL` shares the step of the poll that sees no button is the model's
choice (log 1). -/
def Obligations.ReleaseWaitEndsOnlyWhenAllAreUp : Prop :=
  ∀ (b : Half) (s : State) (o : RoundOutcome), s.busy = true → s.ph = .relWait o →
    exec (.round b) s = .next { s with
      btn := pressedNow s, pads := s.pads.tail, fresh := s.fresh + 1
      trace := s.trace ++ [.btn (pressedNow s)]
      ph := if pressedNow s = 0b0000 then
          (match o with
          | .hit => .resHit
          | .fail => .resFail)
        else .relWait o }

/-- R109, R67: resolve and complete; `KEY`, `CNT` and `BTN` keep their values.
Which assignments share a step is the model's choice (log 1). -/
def Obligations.RoundResolvesAndCompletes : Prop :=
  ∀ (b : Half) (s : State), s.busy = true →
    (s.ph = .resHit → exec (.round b) s = .next { s with
      result := 1, hit := true, done := true, busy := false, ph := .idle }) ∧
    (s.ph = .resFail → exec (.round b) s = .next { s with
      result := 0, hit := false, done := true, busy := false, ph := .idle })

/-- R100 to R109, R105 (a): the whole of a round in which no button is pressed, from accept to
completion: exactly `budget` polls and `budget` delays of 1 ms, then Timeout.
The number of steps is the model's choice (log 1). -/
def Obligations.RoundWithoutAPressTimesOut : Prop :=
  ∀ (b : Half) (s : State), s.busy = false → s.dly = 0 →
    (∀ k, k < b.toNat → pressedAhead s k = 0b0000) →
    runCommand (.round b) (seedQuestions s + 33 + 2 * b.toNat) s = .next { s with
      op := 0x3, arg := b, scnt := 25
      seed := lcg (accumulated s 25), tmp := channelFold (lcg (accumulated s 25))
      key := channelOf (channelFold (lcg (accumulated s 25)))
      cnt := 0, btn := 0b0000, mode := 0b0000, led := 0b0000
      result := 0, hit := false, done := true, busy := false, ph := .idle
      samples := s.samples.drop 25, draws := drawsAfter s, pads := s.pads.drop b.toNat
      fresh := s.fresh + seedQuestions s + 25 + b.toNat
      trace := s.trace ++ requestEvents s ++
        showEvents (channelOf (channelFold (lcg (accumulated s 25)))) ++
        times b.toNat [.btn 0b0000, .delay 1] }

/-- R100 to R109, R105 (b), (c): the whole of a round whose first press comes after `k` empty polls
(`k < budget`, the last allowed poll among them) and is not of the key, with `REL_WAIT_MISS = false`:
Miss, no release wait, `CNT = budget - k`.
The number of steps is the model's choice (log 1). -/
def Obligations.RoundWithAWrongPressMisses : Prop :=
  ∀ (b : Half) (s : State) (k : Nat), s.busy = false → s.dly = 0 → s.cfg.relWaitMiss = false →
    k < b.toNat → (∀ j, j < k → pressedAhead s j = 0b0000) → pressedAhead s k ≠ 0b0000 →
    lsbIndex (pressedAhead s k) ≠ channelOf (channelFold (lcg (accumulated s 25))) →
    runCommand (.round b) (seedQuestions s + 33 + 2 * k) s = .next { s with
      op := 0x3, arg := b, scnt := 25
      seed := lcg (accumulated s 25), tmp := channelFold (lcg (accumulated s 25))
      key := channelOf (channelFold (lcg (accumulated s 25)))
      cnt := BitVec.ofNat 16 (b.toNat - k), btn := pressedAhead s k
      mode := 0b0000, led := 0b0000
      result := 0, hit := false, done := true, busy := false, ph := .idle
      samples := s.samples.drop 25, draws := drawsAfter s, pads := s.pads.drop (k + 1)
      fresh := s.fresh + seedQuestions s + 25 + (k + 1)
      trace := s.trace ++ requestEvents s ++
        showEvents (channelOf (channelFold (lcg (accumulated s 25)))) ++
        times k [.btn 0b0000, .delay 1] ++ [.btn (pressedAhead s k)] }

/-- R100 to R109: the whole of a round whose first press comes after `k` empty polls and that waits for
the release: a press of the key, or a wrong one with `REL_WAIT_MISS = true`. The wait lasts while
buttons are down (`m` further polls) and ends at the first poll that sees none; the round is a Hit iff
the lowest button of the press was the key.
The number of steps is the model's choice (log 1). -/
def Obligations.RoundWithAPressWaitsForRelease : Prop :=
  ∀ (b : Half) (s : State) (k m : Nat), s.busy = false → s.dly = 0 →
    k < b.toNat → (∀ j, j < k → pressedAhead s j = 0b0000) → pressedAhead s k ≠ 0b0000 →
    (lsbIndex (pressedAhead s k) = channelOf (channelFold (lcg (accumulated s 25))) ∨
      s.cfg.relWaitMiss = true) →
    (∀ j, j < m → pressedAhead s (k + 1 + j) ≠ 0b0000) → pressedAhead s (k + 1 + m) = 0b0000 →
    runCommand (.round b) (seedQuestions s + 34 + 2 * k + m) s = .next { s with
      op := 0x3, arg := b, scnt := 25
      seed := lcg (accumulated s 25), tmp := channelFold (lcg (accumulated s 25))
      key := channelOf (channelFold (lcg (accumulated s 25)))
      cnt := BitVec.ofNat 16 (b.toNat - k), btn := 0b0000, mode := 0b0000, led := 0b0000
      result :=
        if lsbIndex (pressedAhead s k) = channelOf (channelFold (lcg (accumulated s 25))) then 1
        else 0
      hit := decide
        (lsbIndex (pressedAhead s k) = channelOf (channelFold (lcg (accumulated s 25))))
      done := true, busy := false, ph := .idle
      samples := s.samples.drop 25, draws := drawsAfter s, pads := s.pads.drop (k + m + 2)
      fresh := s.fresh + seedQuestions s + 25 + (k + m + 2)
      trace := s.trace ++ requestEvents s ++
        showEvents (channelOf (channelFold (lcg (accumulated s 25)))) ++
        times k [.btn 0b0000, .delay 1] ++ [.btn (pressedAhead s k)] ++
        (List.range m).map (fun j => .btn (pressedAhead s (k + 1 + j))) ++ [.btn 0b0000] }

/-- R173, R108: while some button stays down the release wait goes on, however many polls it makes. -/
def Obligations.ReleaseWaitHangsWhileAButtonIsDown : Prop :=
  ∀ (b : Half) (s : State) (o : RoundOutcome) (n : Nat), s.busy = true → s.ph = .relWait o →
    (∀ k, k < n → pressedAfter 0 s k ≠ 0b0000) →
    ∃ t, runCommand (.round b) n s = .next t ∧ t.ph = .relWait o ∧ t.busy = true ∧
      t.done = s.done ∧ t.cnt = s.cnt

/-- R100: what `ROUND` leaves alone: the digits, the animation's counters; `KEY` but for the key draw;
the pins but for `SHOW` and the entry of `AWAIT`. -/
def Obligations.RoundLeavesTheRestAlone : Prop :=
  ∀ (b : Half) (s t : State), exec (.round b) s = .next t →
    t.digH = s.digH ∧ t.digT = s.digT ∧ t.digU = s.digU ∧ t.blk = s.blk ∧ t.rep = s.rep ∧
    t.idx = s.idx ∧
    (s.busy = false → t.key = s.key ∧ t.mode = s.mode ∧ t.led = s.led ∧ t.seed = s.seed ∧
      t.cnt = s.cnt ∧ t.btn = s.btn ∧ t.trace = s.trace) ∧
    (s.ph ≠ .mix → t.key = s.key ∧ t.tmp = s.tmp) ∧
    (s.ph.code ≠ 3 → t.led = s.led ∧ (s.ph ≠ .mix → t.mode = s.mode)) ∧
    (s.ph.code ≠ 3 → s.ph.code ≠ 4 → t.cnt = s.cnt) ∧
    (s.ph.code ≠ 1 → t.scnt = s.scnt ∧ t.samples = s.samples ∧ t.draws = s.draws) ∧
    (s.ph.code ≠ 1 → s.ph ≠ .mix → t.seed = s.seed) ∧
    (s.ph.code ≠ 3 → s.ph.code ≠ 4 → s.ph.code ≠ 5 → t.btn = s.btn) ∧
    (s.ph.code ≠ 4 → s.ph.code ≠ 5 → t.pads = s.pads) ∧
    (s.ph.delayAt = none → t.dly = s.dly)

/-! ## The score (spec/42_score.md) -/

/-- R121: the digit split; the hundreds are not reduced modulo 10. -/
def Obligations.ScoreSplitsIntoItsDigits : Prop :=
  (∀ x : Half,
    (hundredsOf x).toNat = x.toNat / 100 ∧ (tensOf x).toNat = x.toNat / 10 % 10 ∧
    (unitsOf x).toNat = x.toNat % 10 ∧
    x.toNat = 100 * (hundredsOf x).toNat + 10 * (tensOf x).toNat + (unitsOf x).toNat ∧
    (hundredsOf x).toNat ≤ 655 ∧ (tensOf x).toNat ≤ 9 ∧ (unitsOf x).toNat ≤ 9) ∧
  hundredsOf 1000 = 10 ∧ hundredsOf 65535 = 655 ∧ tensOf 65535 = 3 ∧ unitsOf 65535 = 5

/-- R123: `Blink(c, n)` in each digit phase, `n = BLK`: `n` blinks of 4 primitives each and nothing else;
the channel's latch is off afterwards, or untouched when `n = 0`.
The number of steps is the model's choice (log 1). -/
def Obligations.BlinkRunsItsCount : Prop :=
  ∀ (x : Half) (s : State) (c : Channel) (here : BlinkAt → Phase), s.busy = true → s.dly = 0 →
    ((c = 2 ∧ here = .dispH) ∨ (c = 1 ∧ here = .dispT) ∨ (c = 0 ∧ here = .dispU)) →
    s.ph = here .test →
    runCommand (.score x) (4 * s.blk.toNat) s = .next { s with
      blk := 0
      led := if s.blk = 0 then s.led else withLatch s.led c false
      trace := s.trace ++ times s.blk.toNat (blink c) }

/-- R120 to R122, R67: the first and the last steps of `SCORE` and the changes of digit: outputs and
digits first; hundreds, tens, units in this order; a zero digit makes no event; then completion.
Which assignments share a step is the model's choice (log 1). -/
def Obligations.ScoreGoesThroughItsDigitsInOrder : Prop :=
  ∀ (x : Half) (s : State), s.busy = true →
    (s.ph = .dispEnter → exec (.score x) s = .next { s with
      mode := 0b1111, digH := hundredsOf s.arg, digT := tensOf s.arg, digU := unitsOf s.arg
      blk := hundredsOf s.arg, ph := .dispH .test, trace := s.trace ++ [.modeAll .output] }) ∧
    (s.ph = .dispH .test → s.blk = 0 → exec (.score x) s = .next { s with
      blk := s.digT.setWidth 10, ph := .dispT .test }) ∧
    (s.ph = .dispT .test → s.blk = 0 → exec (.score x) s = .next { s with
      blk := s.digU.setWidth 10, ph := .dispU .test }) ∧
    (s.ph = .dispU .test → s.blk = 0 → exec (.score x) s = .next { s with
      result := 0, hit := false, done := true, busy := false, ph := .idle })

/-- R120 to R124: the whole of `SCORE score`, from accept to completion, for every score.
The number of steps is the model's choice (log 1). -/
def Obligations.ScoreRunsFromAcceptToCompletion : Prop :=
  ∀ (x : Half) (s : State), s.busy = false → s.dly = 0 →
    runCommand (.score x)
      (5 + 4 * (x.toNat / 100 + x.toNat / 10 % 10 + x.toNat % 10)) s = .next { s with
      op := 0x4, arg := x
      digH := BitVec.ofNat 10 (x.toNat / 100), digT := BitVec.ofNat 4 (x.toNat / 10 % 10)
      digU := BitVec.ofNat 4 (x.toNat % 10), blk := 0
      mode := 0b1111
      led := s.led &&& (0b1000 |||
        (if x.toNat / 100 = 0 then 0b0100 else 0) |||
        (if x.toNat / 10 % 10 = 0 then 0b0010 else 0) |||
        (if x.toNat % 10 = 0 then 0b0001 else 0))
      result := 0, hit := false, done := true, busy := false, ph := .idle
      trace := s.trace ++ [.modeAll .output] ++ times (x.toNat / 100) (blink 2) ++
        times (x.toNat / 10 % 10) (blink 1) ++ times (x.toNat % 10) (blink 0) }

/-- R120, R171: what `SCORE` leaves alone: `LED[3]` always, the generator, the round's registers, the
animation's counters, the environment's answers. -/
def Obligations.ScoreLeavesTheRestAlone : Prop :=
  ∀ (x : Half) (s t : State), exec (.score x) s = .next t →
    t.led.getLsbD 3 = s.led.getLsbD 3 ∧
    t.seed = s.seed ∧ t.tmp = s.tmp ∧ t.key = s.key ∧ t.cnt = s.cnt ∧ t.btn = s.btn ∧
    t.scnt = s.scnt ∧ t.rep = s.rep ∧ t.idx = s.idx ∧ t.samples = s.samples ∧ t.pads = s.pads ∧
    t.draws = s.draws ∧ t.fresh = s.fresh ∧
    (s.busy = false → t.mode = s.mode ∧ t.led = s.led ∧ t.trace = s.trace ∧ t.digH = s.digH ∧
      t.digT = s.digT ∧ t.digU = s.digU ∧ t.blk = s.blk ∧ t.dly = s.dly) ∧
    (s.ph ≠ .dispEnter → t.mode = s.mode ∧ t.digH = s.digH ∧ t.digT = s.digT ∧ t.digU = s.digU) ∧
    (s.ph.delayAt = none → t.dly = s.dly)

/-! ## The animations (spec/43_animation.md) -/

/-- R130, R131: the whole of `ANIMS`, from accept to completion: two repetitions of the sweeps, the
pause, and all four LEDs lit at the end, whatever `LED` was. That `IDX` ends at 4 is read from its range
in R11 (log 19).
The number of steps is the model's choice (log 1). -/
def Obligations.StartAnimationRunsFromAcceptToCompletion : Prop :=
  ∀ s : State, s.busy = false → s.dly = 0 →
    runCommand .anims 36 s = .next { s with
      op := 0x5, arg := 0, rep := 2, idx := 4, mode := 0b1111, led := 0b1111
      result := 0, hit := false, done := true, busy := false, ph := .idle
      trace := s.trace ++ [.modeAll .output] ++ times 2 startSweeps ++ [.delay 1000] }

/-- R132, R133: the whole of `ANIMF`, from accept to completion: two flashes of all four LEDs at once,
and all four off at the end, whatever `LED` was.
The number of steps is the model's choice (log 1). -/
def Obligations.FailAnimationRunsFromAcceptToCompletion : Prop :=
  ∀ s : State, s.busy = false → s.dly = 0 →
    runCommand .animf 11 s = .next { s with
      op := 0x6, arg := 0, rep := 2, mode := 0b1111, led := 0b0000
      result := 0, hit := false, done := true, busy := false, ph := .idle
      trace := s.trace ++ [.modeAll .output] ++ times 2 failFlash }

/-- R131: one write of a sweep: the latch of channel `IDX` and no other, then 100 ms. -/
def Obligations.SweepWritesOneChannelAStep : Prop :=
  ∀ s : State, s.busy = true → s.idx.toNat < 4 →
    (s.ph = .animS .offWrite → ∃ t, exec .anims s = .next t ∧ t.ph = .animS .offHold ∧
      t.idx = s.idx ∧ t.rep = s.rep ∧
      t.trace = s.trace ++ [.led (BitVec.ofNat 2 s.idx.toNat) false] ∧
      ∀ j : Channel, t.led.getLsbD j.toNat =
        if j.toNat = s.idx.toNat then false else s.led.getLsbD j.toNat) ∧
    (s.ph = .animS .onWrite → ∃ t, exec .anims s = .next t ∧ t.ph = .animS .onHold ∧
      t.idx = s.idx ∧ t.rep = s.rep ∧
      t.trace = s.trace ++ [.led (BitVec.ofNat 2 s.idx.toNat) true] ∧
      ∀ j : Channel, t.led.getLsbD j.toNat =
        if j.toNat = s.idx.toNat then true else s.led.getLsbD j.toNat)

/-- R133: one flash of the fail sequence, one primitive a step, in each of its two repetitions: all four
LEDs on, 250 ms, all four off, 250 ms; after the second, R67's completion.
That `REP + 1` shares the step of the second `Delay(250)`, and that the completion takes a step of its
own, is the model's choice (log 1). -/
def Obligations.FailAnimationFlashesAllFourAtOnce : Prop :=
  ∀ s : State, s.busy = true →
    (s.ph = .animF .on → exec .animf s = .next { s with
      led := 0b1111, ph := .animF .onHold, trace := s.trace ++ [.ledAll 0b1111] }) ∧
    (s.ph = .animF .onHold → s.dly = 0 → exec .animf s = .next { s with
      ph := .animF .off, trace := s.trace ++ [.delay 250] }) ∧
    (s.ph = .animF .off → exec .animf s = .next { s with
      led := 0b0000, ph := .animF .offHold, trace := s.trace ++ [.ledAll 0b0000] }) ∧
    (s.ph = .animF .offHold → s.dly = 0 → s.rep.toNat < 2 → exec .animf s = .next { s with
      rep := s.rep + 1, ph := if s.rep = 0 then .animF .on else .animF .finish
      trace := s.trace ++ [.delay 250] }) ∧
    (s.ph = .animF .finish → exec .animf s = .next { s with
      result := 0, hit := false, done := true, busy := false, ph := .idle })

/-- R131: the sweeps' delays, one a step: after channel 3 the on-sweep follows the off-sweep, a
repetition is done after the on-sweep, and after the second repetition come 1000 ms and R67's
completion. That `IDX` ends at 4 is read from its range in R11 (log 19).
That the index and `REP + 1` share the step of the delay, and that the completion takes a step of its
own, is the model's choice (log 1). -/
def Obligations.StartAnimationStepsThroughItsSweeps : Prop :=
  ∀ s : State, s.busy = true →
    (s.ph = .animS .offHold → s.dly = 0 → s.idx.toNat < 4 → exec .anims s = .next { s with
      idx := if s.idx = 3 then 0 else s.idx + 1
      ph := if s.idx = 3 then .animS .onWrite else .animS .offWrite
      trace := s.trace ++ [.delay 100] }) ∧
    (s.ph = .animS .onHold → s.dly = 0 → s.idx.toNat < 3 → exec .anims s = .next { s with
      idx := s.idx + 1, ph := .animS .onWrite, trace := s.trace ++ [.delay 100] }) ∧
    (s.ph = .animS .onHold → s.dly = 0 → s.idx = 3 → s.rep = 0 → exec .anims s = .next { s with
      idx := 0, rep := 1, ph := .animS .offWrite, trace := s.trace ++ [.delay 100] }) ∧
    (s.ph = .animS .onHold → s.dly = 0 → s.idx = 3 → s.rep = 1 → exec .anims s = .next { s with
      idx := 4, rep := 2, ph := .animS .pause, trace := s.trace ++ [.delay 100] }) ∧
    (s.ph = .animS .pause → s.dly = 0 → exec .anims s = .next { s with
      ph := .animS .finish, trace := s.trace ++ [.delay 1000] }) ∧
    (s.ph = .animS .finish → exec .anims s = .next { s with
      result := 0, hit := false, done := true, busy := false, ph := .idle })

/-- R130, R132: what the animations leave alone: "Reads no button, takes no sample, does not touch
`KEY`". -/
def Obligations.AnimationsLeaveTheRestAlone : Prop :=
  ∀ (i : Instr) (s t : State), (i = .anims ∨ i = .animf) → exec i s = .next t →
    t.seed = s.seed ∧ t.tmp = s.tmp ∧ t.key = s.key ∧ t.cnt = s.cnt ∧ t.btn = s.btn ∧
    t.scnt = s.scnt ∧ t.digH = s.digH ∧ t.digT = s.digT ∧ t.digU = s.digU ∧ t.blk = s.blk ∧
    t.samples = s.samples ∧ t.pads = s.pads ∧ t.draws = s.draws ∧ t.fresh = s.fresh ∧
    (i = .animf → t.idx = s.idx) ∧
    (s.busy = false → t.mode = s.mode ∧ t.led = s.led ∧ t.trace = s.trace ∧ t.rep = s.rep ∧
      t.idx = s.idx ∧ t.dly = s.dly) ∧
    (s.ph ≠ .animS .enter → s.ph ≠ .animF .enter → t.mode = s.mode) ∧
    (s.ph.delayAt = none → t.dly = s.dly)

/-! ## Runs of the machine -/

/-- R10, R13, R66: a running command that the schedule leaves alone is run by `step` exactly as `exec`
runs it, for as long as it has not completed. -/
def Obligations.MachineRunFollowsTheCommand : Prop :=
  ∀ (i : Instr) (s t : State) (k : Nat),
    s.cfg.wf = true → s.turns = [] → currentCommand s = some i →
    (∀ j u, j < k → runCommand i j s = .next u → u.busy = true) →
    runCommand i k s = .next t → Host.Core.run core k s = .next t

/-- R12, R13, R66, R151: the core leaves `IDLE` for a legal command and for nothing else, the dual of
`OnlyCompletionOrResetEndsACommand`. From `BUSY = 0` a step makes `BUSY = 1` only when its turn is a `CMD`
write of a legal word. A core turn and a tick of an idle core change nothing but the schedule, and so does
a tick of a running one that is at no `Delay`.
The turns, and that the core acts when none is scheduled, are the model's choice (log 4), and so are the
ticks (log 2). -/
def Obligations.IdleCoreWaitsForALegalCommand : Prop :=
  (∀ s t : State, step s = .next t → s.busy = false → t.busy = true →
    ∃ w i rest, s.turns = .write 0 w :: rest ∧ decode w = .command i) ∧
  (∀ s : State, s.cfg.wf = true → s.busy = false →
    (s.turns = [] → step s = .next s) ∧
    (∀ rest, s.turns = .core :: rest → step s = .next { s with turns := rest }) ∧
    (∀ rest, s.turns = .tick :: rest → step s = .next { s with turns := rest })) ∧
  (∀ (s : State) (rest : List Turn), s.cfg.wf = true → s.turns = .tick :: rest →
    s.ph.delayAt = none → step s = .next { s with turns := rest })
end

