-- ==== Sys2Proof/Laws/Decode.lean ====
section
/-!
SUPPORT. The bits and the fields of a composed word, and what a decoded word's fields are.
-/

namespace Sys2Proof

theorem composeWord_getLsbD (o : BitVec 4) (z : BitVec 12) (a : Half) (j : Nat) :
    (composeWord o z a).getLsbD j =
      if j < 16 then a.getLsbD j else if j < 28 then z.getLsbD (j - 16) else o.getLsbD (j - 28) := by
  simp only [composeWord, BitVec.getLsbD_or, BitVec.getLsbD_shiftLeft, BitVec.getLsbD_setWidth]
  by_cases h : j < 16
  · have h1 : j < 28 := by omega
    have h2 : j < 32 := by omega
    simp [h, h1, h2]
  · have ha : a.getLsbD j = false := BitVec.getLsbD_of_ge _ _ (by omega)
    by_cases h1 : j < 28
    · have h2 : j < 32 := by omega
      have h3 : j - 16 < 32 := by omega
      simp [h, h1, h2, h3, ha]
    · have hz : z.getLsbD (j-16) = false := BitVec.getLsbD_of_ge _ _ (by omega)
      by_cases h2 : j < 32
      · have h3 : j - 28 < 32 := by omega
        simp [h, h1, h2, h3, ha, hz]
      · have ho : o.getLsbD (j-28) = false := BitVec.getLsbD_of_ge _ _ (by omega)
        simp [h, h1, h2, ha, hz, ho]

theorem opField_compose (o : BitVec 4) (z : BitVec 12) (a : Half) :
    opField (composeWord o z a) = o := by
  apply BitVec.eq_of_getLsbD_eq; intro i hi
  have h1 : ¬ 28 + i < 16 := by omega
  have h2 : ¬ 28 + i < 28 := by omega
  simp only [opField, BitVec.getLsbD_extractLsb', composeWord_getLsbD, h1, h2, hi]
  simp

theorem zeroField_compose (o : BitVec 4) (z : BitVec 12) (a : Half) :
    zeroField (composeWord o z a) = z := by
  apply BitVec.eq_of_getLsbD_eq; intro i hi
  have h1 : ¬ 16 + i < 16 := by omega
  have h2 : 16 + i < 28 := by omega
  simp only [zeroField, BitVec.getLsbD_extractLsb', composeWord_getLsbD, h1, h2, hi]
  simp

theorem argField_compose (o : BitVec 4) (z : BitVec 12) (a : Half) :
    argField (composeWord o z a) = a := by
  apply BitVec.eq_of_getLsbD_eq; intro i hi
  simp only [argField, BitVec.getLsbD_extractLsb', composeWord_getLsbD, hi, Nat.zero_add]
  simp

theorem compose_fields (w : Word) : composeWord (opField w) (zeroField w) (argField w) = w := by
  apply BitVec.eq_of_getLsbD_eq; intro i hi
  simp only [composeWord_getLsbD, opField, zeroField, argField, BitVec.getLsbD_extractLsb']
  split
  · simp [*]
  split
  · have e : 16 + (i-16) = i := by omega
    have : i - 16 < 12 := by omega
    simp [e, this]
  · have e : 28 + (i-28) = i := by omega
    have : i - 28 < 4 := by omega
    simp [e, this]

/-- The inversion of `decode`: the fields of a command's word. -/
theorem decode_command {w : Word} {i : Instr} (h : decode w = .command i) :
    zeroField w = 0#12 ∧ opField w = opcodeOf i ∧ argField w = operandOf i := by
  unfold decode withoutOperand at h
  split at h
  · cases h
  rename_i hz
  simp only [ne_eq, Decidable.not_not] at hz
  refine ⟨hz, ?_⟩
  repeat' (split at h)
  all_goals try cases h
  all_goals simp_all [opcodeOf, operandOf]

theorem opField_toNat (w : Word) : (opField w).toNat = w.toNat / 2^28 := by
  have := w.isLt
  simp [opField, Nat.shiftRight_eq_div_pow]; omega

theorem zeroField_toNat (w : Word) : (zeroField w).toNat = w.toNat / 2^16 % 2^12 := by
  simp [zeroField, Nat.shiftRight_eq_div_pow]

theorem argField_toNat (w : Word) : (argField w).toNat = w.toNat % 2^16 := by
  simp [argField]

end Sys2Proof
end

