-- ==== Sys2Proof/Laws/State.lean ====
section
/-!
SUPPORT. What each named operation of Machine/Ops.lean does to each field of State, one lemma a field,
true by rfl. A later proof cites these and never unfolds a record update.
-/

namespace Sys2Proof.Machine

variable (s : State)

/-! ### `emit` -/

@[simp] theorem emit_cfg (e : Event) : (emit e s).cfg = s.cfg := rfl
@[simp] theorem emit_ph (e : Event) : (emit e s).ph = s.ph := rfl
@[simp] theorem emit_seed (e : Event) : (emit e s).seed = s.seed := rfl
@[simp] theorem emit_tmp (e : Event) : (emit e s).tmp = s.tmp := rfl
@[simp] theorem emit_key (e : Event) : (emit e s).key = s.key := rfl
@[simp] theorem emit_cnt (e : Event) : (emit e s).cnt = s.cnt := rfl
@[simp] theorem emit_btn (e : Event) : (emit e s).btn = s.btn := rfl
@[simp] theorem emit_op (e : Event) : (emit e s).op = s.op := rfl
@[simp] theorem emit_arg (e : Event) : (emit e s).arg = s.arg := rfl
@[simp] theorem emit_scnt (e : Event) : (emit e s).scnt = s.scnt := rfl
@[simp] theorem emit_digH (e : Event) : (emit e s).digH = s.digH := rfl
@[simp] theorem emit_digT (e : Event) : (emit e s).digT = s.digT := rfl
@[simp] theorem emit_digU (e : Event) : (emit e s).digU = s.digU := rfl
@[simp] theorem emit_blk (e : Event) : (emit e s).blk = s.blk := rfl
@[simp] theorem emit_rep (e : Event) : (emit e s).rep = s.rep := rfl
@[simp] theorem emit_idx (e : Event) : (emit e s).idx = s.idx := rfl
@[simp] theorem emit_dly (e : Event) : (emit e s).dly = s.dly := rfl
@[simp] theorem emit_busy (e : Event) : (emit e s).busy = s.busy := rfl
@[simp] theorem emit_done (e : Event) : (emit e s).done = s.done := rfl
@[simp] theorem emit_hit (e : Event) : (emit e s).hit = s.hit := rfl
@[simp] theorem emit_err (e : Event) : (emit e s).err = s.err := rfl
@[simp] theorem emit_result (e : Event) : (emit e s).result = s.result := rfl
@[simp] theorem emit_mode (e : Event) : (emit e s).mode = s.mode := rfl
@[simp] theorem emit_led (e : Event) : (emit e s).led = s.led := rfl
@[simp] theorem emit_trace (e : Event) : (emit e s).trace = s.trace ++ [e] := rfl
@[simp] theorem emit_samples (e : Event) : (emit e s).samples = s.samples := rfl
@[simp] theorem emit_pads (e : Event) : (emit e s).pads = s.pads := rfl
@[simp] theorem emit_draws (e : Event) : (emit e s).draws = s.draws := rfl
@[simp] theorem emit_fresh (e : Event) : (emit e s).fresh = s.fresh := rfl
@[simp] theorem emit_turns (e : Event) : (emit e s).turns = s.turns := rfl
@[simp] theorem emit_reads (e : Event) : (emit e s).reads = s.reads := rfl

/-! ### `pinModeAll` -/

@[simp] theorem pinModeAll_cfg (m : PinMode) : (pinModeAll m s).cfg = s.cfg := rfl
@[simp] theorem pinModeAll_ph (m : PinMode) : (pinModeAll m s).ph = s.ph := rfl
@[simp] theorem pinModeAll_seed (m : PinMode) : (pinModeAll m s).seed = s.seed := rfl
@[simp] theorem pinModeAll_tmp (m : PinMode) : (pinModeAll m s).tmp = s.tmp := rfl
@[simp] theorem pinModeAll_key (m : PinMode) : (pinModeAll m s).key = s.key := rfl
@[simp] theorem pinModeAll_cnt (m : PinMode) : (pinModeAll m s).cnt = s.cnt := rfl
@[simp] theorem pinModeAll_btn (m : PinMode) : (pinModeAll m s).btn = s.btn := rfl
@[simp] theorem pinModeAll_op (m : PinMode) : (pinModeAll m s).op = s.op := rfl
@[simp] theorem pinModeAll_arg (m : PinMode) : (pinModeAll m s).arg = s.arg := rfl
@[simp] theorem pinModeAll_scnt (m : PinMode) : (pinModeAll m s).scnt = s.scnt := rfl
@[simp] theorem pinModeAll_digH (m : PinMode) : (pinModeAll m s).digH = s.digH := rfl
@[simp] theorem pinModeAll_digT (m : PinMode) : (pinModeAll m s).digT = s.digT := rfl
@[simp] theorem pinModeAll_digU (m : PinMode) : (pinModeAll m s).digU = s.digU := rfl
@[simp] theorem pinModeAll_blk (m : PinMode) : (pinModeAll m s).blk = s.blk := rfl
@[simp] theorem pinModeAll_rep (m : PinMode) : (pinModeAll m s).rep = s.rep := rfl
@[simp] theorem pinModeAll_idx (m : PinMode) : (pinModeAll m s).idx = s.idx := rfl
@[simp] theorem pinModeAll_dly (m : PinMode) : (pinModeAll m s).dly = s.dly := rfl
@[simp] theorem pinModeAll_busy (m : PinMode) : (pinModeAll m s).busy = s.busy := rfl
@[simp] theorem pinModeAll_done (m : PinMode) : (pinModeAll m s).done = s.done := rfl
@[simp] theorem pinModeAll_hit (m : PinMode) : (pinModeAll m s).hit = s.hit := rfl
@[simp] theorem pinModeAll_err (m : PinMode) : (pinModeAll m s).err = s.err := rfl
@[simp] theorem pinModeAll_result (m : PinMode) : (pinModeAll m s).result = s.result := rfl
@[simp] theorem pinModeAll_mode (m : PinMode) : (pinModeAll m s).mode = modeBits m := rfl
@[simp] theorem pinModeAll_led (m : PinMode) : (pinModeAll m s).led = s.led := rfl
@[simp] theorem pinModeAll_trace (m : PinMode) : (pinModeAll m s).trace = s.trace ++ [.modeAll m] := rfl
@[simp] theorem pinModeAll_samples (m : PinMode) : (pinModeAll m s).samples = s.samples := rfl
@[simp] theorem pinModeAll_pads (m : PinMode) : (pinModeAll m s).pads = s.pads := rfl
@[simp] theorem pinModeAll_draws (m : PinMode) : (pinModeAll m s).draws = s.draws := rfl
@[simp] theorem pinModeAll_fresh (m : PinMode) : (pinModeAll m s).fresh = s.fresh := rfl
@[simp] theorem pinModeAll_turns (m : PinMode) : (pinModeAll m s).turns = s.turns := rfl
@[simp] theorem pinModeAll_reads (m : PinMode) : (pinModeAll m s).reads = s.reads := rfl

/-! ### `pinWrite` -/

@[simp] theorem pinWrite_cfg (i : Channel) (b : Bool) : (pinWrite i b s).cfg = s.cfg := rfl
@[simp] theorem pinWrite_ph (i : Channel) (b : Bool) : (pinWrite i b s).ph = s.ph := rfl
@[simp] theorem pinWrite_seed (i : Channel) (b : Bool) : (pinWrite i b s).seed = s.seed := rfl
@[simp] theorem pinWrite_tmp (i : Channel) (b : Bool) : (pinWrite i b s).tmp = s.tmp := rfl
@[simp] theorem pinWrite_key (i : Channel) (b : Bool) : (pinWrite i b s).key = s.key := rfl
@[simp] theorem pinWrite_cnt (i : Channel) (b : Bool) : (pinWrite i b s).cnt = s.cnt := rfl
@[simp] theorem pinWrite_btn (i : Channel) (b : Bool) : (pinWrite i b s).btn = s.btn := rfl
@[simp] theorem pinWrite_op (i : Channel) (b : Bool) : (pinWrite i b s).op = s.op := rfl
@[simp] theorem pinWrite_arg (i : Channel) (b : Bool) : (pinWrite i b s).arg = s.arg := rfl
@[simp] theorem pinWrite_scnt (i : Channel) (b : Bool) : (pinWrite i b s).scnt = s.scnt := rfl
@[simp] theorem pinWrite_digH (i : Channel) (b : Bool) : (pinWrite i b s).digH = s.digH := rfl
@[simp] theorem pinWrite_digT (i : Channel) (b : Bool) : (pinWrite i b s).digT = s.digT := rfl
@[simp] theorem pinWrite_digU (i : Channel) (b : Bool) : (pinWrite i b s).digU = s.digU := rfl
@[simp] theorem pinWrite_blk (i : Channel) (b : Bool) : (pinWrite i b s).blk = s.blk := rfl
@[simp] theorem pinWrite_rep (i : Channel) (b : Bool) : (pinWrite i b s).rep = s.rep := rfl
@[simp] theorem pinWrite_idx (i : Channel) (b : Bool) : (pinWrite i b s).idx = s.idx := rfl
@[simp] theorem pinWrite_dly (i : Channel) (b : Bool) : (pinWrite i b s).dly = s.dly := rfl
@[simp] theorem pinWrite_busy (i : Channel) (b : Bool) : (pinWrite i b s).busy = s.busy := rfl
@[simp] theorem pinWrite_done (i : Channel) (b : Bool) : (pinWrite i b s).done = s.done := rfl
@[simp] theorem pinWrite_hit (i : Channel) (b : Bool) : (pinWrite i b s).hit = s.hit := rfl
@[simp] theorem pinWrite_err (i : Channel) (b : Bool) : (pinWrite i b s).err = s.err := rfl
@[simp] theorem pinWrite_result (i : Channel) (b : Bool) : (pinWrite i b s).result = s.result := rfl
@[simp] theorem pinWrite_mode (i : Channel) (b : Bool) : (pinWrite i b s).mode = s.mode := rfl
@[simp] theorem pinWrite_led (i : Channel) (b : Bool) : (pinWrite i b s).led = withLatch s.led i b := rfl
@[simp] theorem pinWrite_trace (i : Channel) (b : Bool) : (pinWrite i b s).trace = s.trace ++ [.led i b] := rfl
@[simp] theorem pinWrite_samples (i : Channel) (b : Bool) : (pinWrite i b s).samples = s.samples := rfl
@[simp] theorem pinWrite_pads (i : Channel) (b : Bool) : (pinWrite i b s).pads = s.pads := rfl
@[simp] theorem pinWrite_draws (i : Channel) (b : Bool) : (pinWrite i b s).draws = s.draws := rfl
@[simp] theorem pinWrite_fresh (i : Channel) (b : Bool) : (pinWrite i b s).fresh = s.fresh := rfl
@[simp] theorem pinWrite_turns (i : Channel) (b : Bool) : (pinWrite i b s).turns = s.turns := rfl
@[simp] theorem pinWrite_reads (i : Channel) (b : Bool) : (pinWrite i b s).reads = s.reads := rfl

/-! ### `pinWriteAll` -/

@[simp] theorem pinWriteAll_cfg (v : Pads) : (pinWriteAll v s).cfg = s.cfg := rfl
@[simp] theorem pinWriteAll_ph (v : Pads) : (pinWriteAll v s).ph = s.ph := rfl
@[simp] theorem pinWriteAll_seed (v : Pads) : (pinWriteAll v s).seed = s.seed := rfl
@[simp] theorem pinWriteAll_tmp (v : Pads) : (pinWriteAll v s).tmp = s.tmp := rfl
@[simp] theorem pinWriteAll_key (v : Pads) : (pinWriteAll v s).key = s.key := rfl
@[simp] theorem pinWriteAll_cnt (v : Pads) : (pinWriteAll v s).cnt = s.cnt := rfl
@[simp] theorem pinWriteAll_btn (v : Pads) : (pinWriteAll v s).btn = s.btn := rfl
@[simp] theorem pinWriteAll_op (v : Pads) : (pinWriteAll v s).op = s.op := rfl
@[simp] theorem pinWriteAll_arg (v : Pads) : (pinWriteAll v s).arg = s.arg := rfl
@[simp] theorem pinWriteAll_scnt (v : Pads) : (pinWriteAll v s).scnt = s.scnt := rfl
@[simp] theorem pinWriteAll_digH (v : Pads) : (pinWriteAll v s).digH = s.digH := rfl
@[simp] theorem pinWriteAll_digT (v : Pads) : (pinWriteAll v s).digT = s.digT := rfl
@[simp] theorem pinWriteAll_digU (v : Pads) : (pinWriteAll v s).digU = s.digU := rfl
@[simp] theorem pinWriteAll_blk (v : Pads) : (pinWriteAll v s).blk = s.blk := rfl
@[simp] theorem pinWriteAll_rep (v : Pads) : (pinWriteAll v s).rep = s.rep := rfl
@[simp] theorem pinWriteAll_idx (v : Pads) : (pinWriteAll v s).idx = s.idx := rfl
@[simp] theorem pinWriteAll_dly (v : Pads) : (pinWriteAll v s).dly = s.dly := rfl
@[simp] theorem pinWriteAll_busy (v : Pads) : (pinWriteAll v s).busy = s.busy := rfl
@[simp] theorem pinWriteAll_done (v : Pads) : (pinWriteAll v s).done = s.done := rfl
@[simp] theorem pinWriteAll_hit (v : Pads) : (pinWriteAll v s).hit = s.hit := rfl
@[simp] theorem pinWriteAll_err (v : Pads) : (pinWriteAll v s).err = s.err := rfl
@[simp] theorem pinWriteAll_result (v : Pads) : (pinWriteAll v s).result = s.result := rfl
@[simp] theorem pinWriteAll_mode (v : Pads) : (pinWriteAll v s).mode = s.mode := rfl
@[simp] theorem pinWriteAll_led (v : Pads) : (pinWriteAll v s).led = v := rfl
@[simp] theorem pinWriteAll_trace (v : Pads) : (pinWriteAll v s).trace = s.trace ++ [.ledAll v] := rfl
@[simp] theorem pinWriteAll_samples (v : Pads) : (pinWriteAll v s).samples = s.samples := rfl
@[simp] theorem pinWriteAll_pads (v : Pads) : (pinWriteAll v s).pads = s.pads := rfl
@[simp] theorem pinWriteAll_draws (v : Pads) : (pinWriteAll v s).draws = s.draws := rfl
@[simp] theorem pinWriteAll_fresh (v : Pads) : (pinWriteAll v s).fresh = s.fresh := rfl
@[simp] theorem pinWriteAll_turns (v : Pads) : (pinWriteAll v s).turns = s.turns := rfl
@[simp] theorem pinWriteAll_reads (v : Pads) : (pinWriteAll v s).reads = s.reads := rfl

/-! ### `pinReadAll` -/

@[simp] theorem pinReadAll_cfg : (pinReadAll s).cfg = s.cfg := rfl
@[simp] theorem pinReadAll_ph : (pinReadAll s).ph = s.ph := rfl
@[simp] theorem pinReadAll_seed : (pinReadAll s).seed = s.seed := rfl
@[simp] theorem pinReadAll_tmp : (pinReadAll s).tmp = s.tmp := rfl
@[simp] theorem pinReadAll_key : (pinReadAll s).key = s.key := rfl
@[simp] theorem pinReadAll_cnt : (pinReadAll s).cnt = s.cnt := rfl
@[simp] theorem pinReadAll_btn : (pinReadAll s).btn = s.btn := rfl
@[simp] theorem pinReadAll_op : (pinReadAll s).op = s.op := rfl
@[simp] theorem pinReadAll_arg : (pinReadAll s).arg = s.arg := rfl
@[simp] theorem pinReadAll_scnt : (pinReadAll s).scnt = s.scnt := rfl
@[simp] theorem pinReadAll_digH : (pinReadAll s).digH = s.digH := rfl
@[simp] theorem pinReadAll_digT : (pinReadAll s).digT = s.digT := rfl
@[simp] theorem pinReadAll_digU : (pinReadAll s).digU = s.digU := rfl
@[simp] theorem pinReadAll_blk : (pinReadAll s).blk = s.blk := rfl
@[simp] theorem pinReadAll_rep : (pinReadAll s).rep = s.rep := rfl
@[simp] theorem pinReadAll_idx : (pinReadAll s).idx = s.idx := rfl
@[simp] theorem pinReadAll_dly : (pinReadAll s).dly = s.dly := rfl
@[simp] theorem pinReadAll_busy : (pinReadAll s).busy = s.busy := rfl
@[simp] theorem pinReadAll_done : (pinReadAll s).done = s.done := rfl
@[simp] theorem pinReadAll_hit : (pinReadAll s).hit = s.hit := rfl
@[simp] theorem pinReadAll_err : (pinReadAll s).err = s.err := rfl
@[simp] theorem pinReadAll_result : (pinReadAll s).result = s.result := rfl
@[simp] theorem pinReadAll_mode : (pinReadAll s).mode = s.mode := rfl
@[simp] theorem pinReadAll_led : (pinReadAll s).led = s.led := rfl
@[simp] theorem pinReadAll_trace : (pinReadAll s).trace = s.trace ++ [.btn (pressedNow s)] := rfl
@[simp] theorem pinReadAll_samples : (pinReadAll s).samples = s.samples := rfl
@[simp] theorem pinReadAll_pads : (pinReadAll s).pads = s.pads.tail := rfl
@[simp] theorem pinReadAll_draws : (pinReadAll s).draws = s.draws := rfl
@[simp] theorem pinReadAll_fresh : (pinReadAll s).fresh = s.fresh + 1 := rfl
@[simp] theorem pinReadAll_turns : (pinReadAll s).turns = s.turns := rfl
@[simp] theorem pinReadAll_reads : (pinReadAll s).reads = s.reads := rfl

/-! ### `adcSample` -/

@[simp] theorem adcSample_cfg : (adcSample s).cfg = s.cfg := rfl
@[simp] theorem adcSample_ph : (adcSample s).ph = s.ph := rfl
@[simp] theorem adcSample_seed : (adcSample s).seed = s.seed := rfl
@[simp] theorem adcSample_tmp : (adcSample s).tmp = s.tmp := rfl
@[simp] theorem adcSample_key : (adcSample s).key = s.key := rfl
@[simp] theorem adcSample_cnt : (adcSample s).cnt = s.cnt := rfl
@[simp] theorem adcSample_btn : (adcSample s).btn = s.btn := rfl
@[simp] theorem adcSample_op : (adcSample s).op = s.op := rfl
@[simp] theorem adcSample_arg : (adcSample s).arg = s.arg := rfl
@[simp] theorem adcSample_scnt : (adcSample s).scnt = s.scnt := rfl
@[simp] theorem adcSample_digH : (adcSample s).digH = s.digH := rfl
@[simp] theorem adcSample_digT : (adcSample s).digT = s.digT := rfl
@[simp] theorem adcSample_digU : (adcSample s).digU = s.digU := rfl
@[simp] theorem adcSample_blk : (adcSample s).blk = s.blk := rfl
@[simp] theorem adcSample_rep : (adcSample s).rep = s.rep := rfl
@[simp] theorem adcSample_idx : (adcSample s).idx = s.idx := rfl
@[simp] theorem adcSample_dly : (adcSample s).dly = s.dly := rfl
@[simp] theorem adcSample_busy : (adcSample s).busy = s.busy := rfl
@[simp] theorem adcSample_done : (adcSample s).done = s.done := rfl
@[simp] theorem adcSample_hit : (adcSample s).hit = s.hit := rfl
@[simp] theorem adcSample_err : (adcSample s).err = s.err := rfl
@[simp] theorem adcSample_result : (adcSample s).result = s.result := rfl
@[simp] theorem adcSample_mode : (adcSample s).mode = s.mode := rfl
@[simp] theorem adcSample_led : (adcSample s).led = s.led := rfl
@[simp] theorem adcSample_trace : (adcSample s).trace = s.trace ++ [.adc (sampleNow s)] := rfl
@[simp] theorem adcSample_samples : (adcSample s).samples = s.samples.tail := rfl
@[simp] theorem adcSample_pads : (adcSample s).pads = s.pads := rfl
@[simp] theorem adcSample_draws : (adcSample s).draws = s.draws := rfl
@[simp] theorem adcSample_fresh : (adcSample s).fresh = s.fresh + 1 := rfl
@[simp] theorem adcSample_turns : (adcSample s).turns = s.turns := rfl
@[simp] theorem adcSample_reads : (adcSample s).reads = s.reads := rfl

/-! ### `draw16` -/

@[simp] theorem draw16_cfg : (draw16 s).cfg = s.cfg := rfl
@[simp] theorem draw16_ph : (draw16 s).ph = s.ph := rfl
@[simp] theorem draw16_seed : (draw16 s).seed = s.seed := rfl
@[simp] theorem draw16_tmp : (draw16 s).tmp = s.tmp := rfl
@[simp] theorem draw16_key : (draw16 s).key = s.key := rfl
@[simp] theorem draw16_cnt : (draw16 s).cnt = s.cnt := rfl
@[simp] theorem draw16_btn : (draw16 s).btn = s.btn := rfl
@[simp] theorem draw16_op : (draw16 s).op = s.op := rfl
@[simp] theorem draw16_arg : (draw16 s).arg = s.arg := rfl
@[simp] theorem draw16_scnt : (draw16 s).scnt = s.scnt := rfl
@[simp] theorem draw16_digH : (draw16 s).digH = s.digH := rfl
@[simp] theorem draw16_digT : (draw16 s).digT = s.digT := rfl
@[simp] theorem draw16_digU : (draw16 s).digU = s.digU := rfl
@[simp] theorem draw16_blk : (draw16 s).blk = s.blk := rfl
@[simp] theorem draw16_rep : (draw16 s).rep = s.rep := rfl
@[simp] theorem draw16_idx : (draw16 s).idx = s.idx := rfl
@[simp] theorem draw16_dly : (draw16 s).dly = s.dly := rfl
@[simp] theorem draw16_busy : (draw16 s).busy = s.busy := rfl
@[simp] theorem draw16_done : (draw16 s).done = s.done := rfl
@[simp] theorem draw16_hit : (draw16 s).hit = s.hit := rfl
@[simp] theorem draw16_err : (draw16 s).err = s.err := rfl
@[simp] theorem draw16_result : (draw16 s).result = s.result := rfl
@[simp] theorem draw16_mode : (draw16 s).mode = s.mode := rfl
@[simp] theorem draw16_led : (draw16 s).led = s.led := rfl
@[simp] theorem draw16_trace : (draw16 s).trace = s.trace ++ [.draw (drawNow s)] := rfl
@[simp] theorem draw16_samples : (draw16 s).samples = s.samples := rfl
@[simp] theorem draw16_pads : (draw16 s).pads = s.pads := rfl
@[simp] theorem draw16_draws : (draw16 s).draws = s.draws.tail := rfl
@[simp] theorem draw16_fresh : (draw16 s).fresh = s.fresh + 1 := rfl
@[simp] theorem draw16_turns : (draw16 s).turns = s.turns := rfl
@[simp] theorem draw16_reads : (draw16 s).reads = s.reads := rfl

/-! ### `beginDelay` -/

@[simp] theorem beginDelay_cfg (n : Nat) : (beginDelay n s).cfg = s.cfg := rfl
@[simp] theorem beginDelay_ph (n : Nat) : (beginDelay n s).ph = s.ph := rfl
@[simp] theorem beginDelay_seed (n : Nat) : (beginDelay n s).seed = s.seed := rfl
@[simp] theorem beginDelay_tmp (n : Nat) : (beginDelay n s).tmp = s.tmp := rfl
@[simp] theorem beginDelay_key (n : Nat) : (beginDelay n s).key = s.key := rfl
@[simp] theorem beginDelay_cnt (n : Nat) : (beginDelay n s).cnt = s.cnt := rfl
@[simp] theorem beginDelay_btn (n : Nat) : (beginDelay n s).btn = s.btn := rfl
@[simp] theorem beginDelay_op (n : Nat) : (beginDelay n s).op = s.op := rfl
@[simp] theorem beginDelay_arg (n : Nat) : (beginDelay n s).arg = s.arg := rfl
@[simp] theorem beginDelay_scnt (n : Nat) : (beginDelay n s).scnt = s.scnt := rfl
@[simp] theorem beginDelay_digH (n : Nat) : (beginDelay n s).digH = s.digH := rfl
@[simp] theorem beginDelay_digT (n : Nat) : (beginDelay n s).digT = s.digT := rfl
@[simp] theorem beginDelay_digU (n : Nat) : (beginDelay n s).digU = s.digU := rfl
@[simp] theorem beginDelay_blk (n : Nat) : (beginDelay n s).blk = s.blk := rfl
@[simp] theorem beginDelay_rep (n : Nat) : (beginDelay n s).rep = s.rep := rfl
@[simp] theorem beginDelay_idx (n : Nat) : (beginDelay n s).idx = s.idx := rfl
@[simp] theorem beginDelay_dly (n : Nat) : (beginDelay n s).dly = BitVec.ofNat 10 n := rfl
@[simp] theorem beginDelay_busy (n : Nat) : (beginDelay n s).busy = s.busy := rfl
@[simp] theorem beginDelay_done (n : Nat) : (beginDelay n s).done = s.done := rfl
@[simp] theorem beginDelay_hit (n : Nat) : (beginDelay n s).hit = s.hit := rfl
@[simp] theorem beginDelay_err (n : Nat) : (beginDelay n s).err = s.err := rfl
@[simp] theorem beginDelay_result (n : Nat) : (beginDelay n s).result = s.result := rfl
@[simp] theorem beginDelay_mode (n : Nat) : (beginDelay n s).mode = s.mode := rfl
@[simp] theorem beginDelay_led (n : Nat) : (beginDelay n s).led = s.led := rfl
@[simp] theorem beginDelay_trace (n : Nat) : (beginDelay n s).trace = s.trace ++ [.delay n] := rfl
@[simp] theorem beginDelay_samples (n : Nat) : (beginDelay n s).samples = s.samples := rfl
@[simp] theorem beginDelay_pads (n : Nat) : (beginDelay n s).pads = s.pads := rfl
@[simp] theorem beginDelay_draws (n : Nat) : (beginDelay n s).draws = s.draws := rfl
@[simp] theorem beginDelay_fresh (n : Nat) : (beginDelay n s).fresh = s.fresh := rfl
@[simp] theorem beginDelay_turns (n : Nat) : (beginDelay n s).turns = s.turns := rfl
@[simp] theorem beginDelay_reads (n : Nat) : (beginDelay n s).reads = s.reads := rfl

/-! ### `countPeriod` -/

@[simp] theorem countPeriod_cfg : (countPeriod s).cfg = s.cfg := rfl
@[simp] theorem countPeriod_ph : (countPeriod s).ph = s.ph := rfl
@[simp] theorem countPeriod_seed : (countPeriod s).seed = s.seed := rfl
@[simp] theorem countPeriod_tmp : (countPeriod s).tmp = s.tmp := rfl
@[simp] theorem countPeriod_key : (countPeriod s).key = s.key := rfl
@[simp] theorem countPeriod_cnt : (countPeriod s).cnt = s.cnt := rfl
@[simp] theorem countPeriod_btn : (countPeriod s).btn = s.btn := rfl
@[simp] theorem countPeriod_op : (countPeriod s).op = s.op := rfl
@[simp] theorem countPeriod_arg : (countPeriod s).arg = s.arg := rfl
@[simp] theorem countPeriod_scnt : (countPeriod s).scnt = s.scnt := rfl
@[simp] theorem countPeriod_digH : (countPeriod s).digH = s.digH := rfl
@[simp] theorem countPeriod_digT : (countPeriod s).digT = s.digT := rfl
@[simp] theorem countPeriod_digU : (countPeriod s).digU = s.digU := rfl
@[simp] theorem countPeriod_blk : (countPeriod s).blk = s.blk := rfl
@[simp] theorem countPeriod_rep : (countPeriod s).rep = s.rep := rfl
@[simp] theorem countPeriod_idx : (countPeriod s).idx = s.idx := rfl
@[simp] theorem countPeriod_dly : (countPeriod s).dly = s.dly - 1#10 := rfl
@[simp] theorem countPeriod_busy : (countPeriod s).busy = s.busy := rfl
@[simp] theorem countPeriod_done : (countPeriod s).done = s.done := rfl
@[simp] theorem countPeriod_hit : (countPeriod s).hit = s.hit := rfl
@[simp] theorem countPeriod_err : (countPeriod s).err = s.err := rfl
@[simp] theorem countPeriod_result : (countPeriod s).result = s.result := rfl
@[simp] theorem countPeriod_mode : (countPeriod s).mode = s.mode := rfl
@[simp] theorem countPeriod_led : (countPeriod s).led = s.led := rfl
@[simp] theorem countPeriod_trace : (countPeriod s).trace = s.trace := rfl
@[simp] theorem countPeriod_samples : (countPeriod s).samples = s.samples := rfl
@[simp] theorem countPeriod_pads : (countPeriod s).pads = s.pads := rfl
@[simp] theorem countPeriod_draws : (countPeriod s).draws = s.draws := rfl
@[simp] theorem countPeriod_fresh : (countPeriod s).fresh = s.fresh := rfl
@[simp] theorem countPeriod_turns : (countPeriod s).turns = s.turns := rfl
@[simp] theorem countPeriod_reads : (countPeriod s).reads = s.reads := rfl

/-! ### `delay` -/

@[simp] theorem delay_cfg (n : Nat) : (delay n s).cfg = s.cfg := rfl
@[simp] theorem delay_ph (n : Nat) : (delay n s).ph = s.ph := rfl
@[simp] theorem delay_seed (n : Nat) : (delay n s).seed = s.seed := rfl
@[simp] theorem delay_tmp (n : Nat) : (delay n s).tmp = s.tmp := rfl
@[simp] theorem delay_key (n : Nat) : (delay n s).key = s.key := rfl
@[simp] theorem delay_cnt (n : Nat) : (delay n s).cnt = s.cnt := rfl
@[simp] theorem delay_btn (n : Nat) : (delay n s).btn = s.btn := rfl
@[simp] theorem delay_op (n : Nat) : (delay n s).op = s.op := rfl
@[simp] theorem delay_arg (n : Nat) : (delay n s).arg = s.arg := rfl
@[simp] theorem delay_scnt (n : Nat) : (delay n s).scnt = s.scnt := rfl
@[simp] theorem delay_digH (n : Nat) : (delay n s).digH = s.digH := rfl
@[simp] theorem delay_digT (n : Nat) : (delay n s).digT = s.digT := rfl
@[simp] theorem delay_digU (n : Nat) : (delay n s).digU = s.digU := rfl
@[simp] theorem delay_blk (n : Nat) : (delay n s).blk = s.blk := rfl
@[simp] theorem delay_rep (n : Nat) : (delay n s).rep = s.rep := rfl
@[simp] theorem delay_idx (n : Nat) : (delay n s).idx = s.idx := rfl
@[simp] theorem delay_dly (n : Nat) : (delay n s).dly = 0#10 := rfl
@[simp] theorem delay_busy (n : Nat) : (delay n s).busy = s.busy := rfl
@[simp] theorem delay_done (n : Nat) : (delay n s).done = s.done := rfl
@[simp] theorem delay_hit (n : Nat) : (delay n s).hit = s.hit := rfl
@[simp] theorem delay_err (n : Nat) : (delay n s).err = s.err := rfl
@[simp] theorem delay_result (n : Nat) : (delay n s).result = s.result := rfl
@[simp] theorem delay_mode (n : Nat) : (delay n s).mode = s.mode := rfl
@[simp] theorem delay_led (n : Nat) : (delay n s).led = s.led := rfl
@[simp] theorem delay_trace (n : Nat) : (delay n s).trace = if s.dly = 0#10 then s.trace ++ [.delay n] else s.trace := rfl
@[simp] theorem delay_samples (n : Nat) : (delay n s).samples = s.samples := rfl
@[simp] theorem delay_pads (n : Nat) : (delay n s).pads = s.pads := rfl
@[simp] theorem delay_draws (n : Nat) : (delay n s).draws = s.draws := rfl
@[simp] theorem delay_fresh (n : Nat) : (delay n s).fresh = s.fresh := rfl
@[simp] theorem delay_turns (n : Nat) : (delay n s).turns = s.turns := rfl
@[simp] theorem delay_reads (n : Nat) : (delay n s).reads = s.reads := rfl

/-! ### `accept` -/

@[simp] theorem accept_cfg (i : Instr) : (accept i s).cfg = s.cfg := rfl
@[simp] theorem accept_ph (i : Instr) : (accept i s).ph = firstPhase i := rfl
@[simp] theorem accept_seed (i : Instr) : (accept i s).seed = s.seed := rfl
@[simp] theorem accept_tmp (i : Instr) : (accept i s).tmp = s.tmp := rfl
@[simp] theorem accept_key (i : Instr) : (accept i s).key = s.key := rfl
@[simp] theorem accept_cnt (i : Instr) : (accept i s).cnt = s.cnt := rfl
@[simp] theorem accept_btn (i : Instr) : (accept i s).btn = s.btn := rfl
@[simp] theorem accept_op (i : Instr) : (accept i s).op = opcodeOf i := rfl
@[simp] theorem accept_arg (i : Instr) : (accept i s).arg = operandOf i := rfl
@[simp] theorem accept_scnt (i : Instr) : (accept i s).scnt = s.scnt := rfl
@[simp] theorem accept_digH (i : Instr) : (accept i s).digH = s.digH := rfl
@[simp] theorem accept_digT (i : Instr) : (accept i s).digT = s.digT := rfl
@[simp] theorem accept_digU (i : Instr) : (accept i s).digU = s.digU := rfl
@[simp] theorem accept_blk (i : Instr) : (accept i s).blk = s.blk := rfl
@[simp] theorem accept_rep (i : Instr) : (accept i s).rep = s.rep := rfl
@[simp] theorem accept_idx (i : Instr) : (accept i s).idx = s.idx := rfl
@[simp] theorem accept_dly (i : Instr) : (accept i s).dly = s.dly := rfl
@[simp] theorem accept_busy (i : Instr) : (accept i s).busy = true := rfl
@[simp] theorem accept_done (i : Instr) : (accept i s).done = false := rfl
@[simp] theorem accept_hit (i : Instr) : (accept i s).hit = false := rfl
@[simp] theorem accept_err (i : Instr) : (accept i s).err = s.err := rfl
@[simp] theorem accept_result (i : Instr) : (accept i s).result = 0#16 := rfl
@[simp] theorem accept_mode (i : Instr) : (accept i s).mode = s.mode := rfl
@[simp] theorem accept_led (i : Instr) : (accept i s).led = s.led := rfl
@[simp] theorem accept_trace (i : Instr) : (accept i s).trace = s.trace := rfl
@[simp] theorem accept_samples (i : Instr) : (accept i s).samples = s.samples := rfl
@[simp] theorem accept_pads (i : Instr) : (accept i s).pads = s.pads := rfl
@[simp] theorem accept_draws (i : Instr) : (accept i s).draws = s.draws := rfl
@[simp] theorem accept_fresh (i : Instr) : (accept i s).fresh = s.fresh := rfl
@[simp] theorem accept_turns (i : Instr) : (accept i s).turns = s.turns := rfl
@[simp] theorem accept_reads (i : Instr) : (accept i s).reads = s.reads := rfl

/-! ### `complete` -/

@[simp] theorem complete_cfg (r : Half) (h : Bool) : (complete r h s).cfg = s.cfg := rfl
@[simp] theorem complete_ph (r : Half) (h : Bool) : (complete r h s).ph = .idle := rfl
@[simp] theorem complete_seed (r : Half) (h : Bool) : (complete r h s).seed = s.seed := rfl
@[simp] theorem complete_tmp (r : Half) (h : Bool) : (complete r h s).tmp = s.tmp := rfl
@[simp] theorem complete_key (r : Half) (h : Bool) : (complete r h s).key = s.key := rfl
@[simp] theorem complete_cnt (r : Half) (h : Bool) : (complete r h s).cnt = s.cnt := rfl
@[simp] theorem complete_btn (r : Half) (h : Bool) : (complete r h s).btn = s.btn := rfl
@[simp] theorem complete_op (r : Half) (h : Bool) : (complete r h s).op = s.op := rfl
@[simp] theorem complete_arg (r : Half) (h : Bool) : (complete r h s).arg = s.arg := rfl
@[simp] theorem complete_scnt (r : Half) (h : Bool) : (complete r h s).scnt = s.scnt := rfl
@[simp] theorem complete_digH (r : Half) (h : Bool) : (complete r h s).digH = s.digH := rfl
@[simp] theorem complete_digT (r : Half) (h : Bool) : (complete r h s).digT = s.digT := rfl
@[simp] theorem complete_digU (r : Half) (h : Bool) : (complete r h s).digU = s.digU := rfl
@[simp] theorem complete_blk (r : Half) (h : Bool) : (complete r h s).blk = s.blk := rfl
@[simp] theorem complete_rep (r : Half) (h : Bool) : (complete r h s).rep = s.rep := rfl
@[simp] theorem complete_idx (r : Half) (h : Bool) : (complete r h s).idx = s.idx := rfl
@[simp] theorem complete_dly (r : Half) (h : Bool) : (complete r h s).dly = s.dly := rfl
@[simp] theorem complete_busy (r : Half) (h : Bool) : (complete r h s).busy = false := rfl
@[simp] theorem complete_done (r : Half) (h : Bool) : (complete r h s).done = true := rfl
@[simp] theorem complete_hit (r : Half) (h : Bool) : (complete r h s).hit = h := rfl
@[simp] theorem complete_err (r : Half) (h : Bool) : (complete r h s).err = s.err := rfl
@[simp] theorem complete_result (r : Half) (h : Bool) : (complete r h s).result = r := rfl
@[simp] theorem complete_mode (r : Half) (h : Bool) : (complete r h s).mode = s.mode := rfl
@[simp] theorem complete_led (r : Half) (h : Bool) : (complete r h s).led = s.led := rfl
@[simp] theorem complete_trace (r : Half) (h : Bool) : (complete r h s).trace = s.trace := rfl
@[simp] theorem complete_samples (r : Half) (h : Bool) : (complete r h s).samples = s.samples := rfl
@[simp] theorem complete_pads (r : Half) (h : Bool) : (complete r h s).pads = s.pads := rfl
@[simp] theorem complete_draws (r : Half) (h : Bool) : (complete r h s).draws = s.draws := rfl
@[simp] theorem complete_fresh (r : Half) (h : Bool) : (complete r h s).fresh = s.fresh := rfl
@[simp] theorem complete_turns (r : Half) (h : Bool) : (complete r h s).turns = s.turns := rfl
@[simp] theorem complete_reads (r : Half) (h : Bool) : (complete r h s).reads = s.reads := rfl

/-! ### `raiseIllegalCommand` -/

@[simp] theorem raiseIllegalCommand_cfg : (raiseIllegalCommand s).cfg = s.cfg := rfl
@[simp] theorem raiseIllegalCommand_ph : (raiseIllegalCommand s).ph = s.ph := rfl
@[simp] theorem raiseIllegalCommand_seed : (raiseIllegalCommand s).seed = s.seed := rfl
@[simp] theorem raiseIllegalCommand_tmp : (raiseIllegalCommand s).tmp = s.tmp := rfl
@[simp] theorem raiseIllegalCommand_key : (raiseIllegalCommand s).key = s.key := rfl
@[simp] theorem raiseIllegalCommand_cnt : (raiseIllegalCommand s).cnt = s.cnt := rfl
@[simp] theorem raiseIllegalCommand_btn : (raiseIllegalCommand s).btn = s.btn := rfl
@[simp] theorem raiseIllegalCommand_op : (raiseIllegalCommand s).op = s.op := rfl
@[simp] theorem raiseIllegalCommand_arg : (raiseIllegalCommand s).arg = s.arg := rfl
@[simp] theorem raiseIllegalCommand_scnt : (raiseIllegalCommand s).scnt = s.scnt := rfl
@[simp] theorem raiseIllegalCommand_digH : (raiseIllegalCommand s).digH = s.digH := rfl
@[simp] theorem raiseIllegalCommand_digT : (raiseIllegalCommand s).digT = s.digT := rfl
@[simp] theorem raiseIllegalCommand_digU : (raiseIllegalCommand s).digU = s.digU := rfl
@[simp] theorem raiseIllegalCommand_blk : (raiseIllegalCommand s).blk = s.blk := rfl
@[simp] theorem raiseIllegalCommand_rep : (raiseIllegalCommand s).rep = s.rep := rfl
@[simp] theorem raiseIllegalCommand_idx : (raiseIllegalCommand s).idx = s.idx := rfl
@[simp] theorem raiseIllegalCommand_dly : (raiseIllegalCommand s).dly = s.dly := rfl
@[simp] theorem raiseIllegalCommand_busy : (raiseIllegalCommand s).busy = s.busy := rfl
@[simp] theorem raiseIllegalCommand_done : (raiseIllegalCommand s).done = s.done := rfl
@[simp] theorem raiseIllegalCommand_hit : (raiseIllegalCommand s).hit = s.hit := rfl
@[simp] theorem raiseIllegalCommand_err : (raiseIllegalCommand s).err = true := rfl
@[simp] theorem raiseIllegalCommand_result : (raiseIllegalCommand s).result = s.result := rfl
@[simp] theorem raiseIllegalCommand_mode : (raiseIllegalCommand s).mode = s.mode := rfl
@[simp] theorem raiseIllegalCommand_led : (raiseIllegalCommand s).led = s.led := rfl
@[simp] theorem raiseIllegalCommand_trace : (raiseIllegalCommand s).trace = s.trace := rfl
@[simp] theorem raiseIllegalCommand_samples : (raiseIllegalCommand s).samples = s.samples := rfl
@[simp] theorem raiseIllegalCommand_pads : (raiseIllegalCommand s).pads = s.pads := rfl
@[simp] theorem raiseIllegalCommand_draws : (raiseIllegalCommand s).draws = s.draws := rfl
@[simp] theorem raiseIllegalCommand_fresh : (raiseIllegalCommand s).fresh = s.fresh := rfl
@[simp] theorem raiseIllegalCommand_turns : (raiseIllegalCommand s).turns = s.turns := rfl
@[simp] theorem raiseIllegalCommand_reads : (raiseIllegalCommand s).reads = s.reads := rfl

/-! ### `hostRead` -/

@[simp] theorem hostRead_cfg (x : RegIndex) : (hostRead x s).cfg = s.cfg := rfl
@[simp] theorem hostRead_ph (x : RegIndex) : (hostRead x s).ph = s.ph := rfl
@[simp] theorem hostRead_seed (x : RegIndex) : (hostRead x s).seed = s.seed := rfl
@[simp] theorem hostRead_tmp (x : RegIndex) : (hostRead x s).tmp = s.tmp := rfl
@[simp] theorem hostRead_key (x : RegIndex) : (hostRead x s).key = s.key := rfl
@[simp] theorem hostRead_cnt (x : RegIndex) : (hostRead x s).cnt = s.cnt := rfl
@[simp] theorem hostRead_btn (x : RegIndex) : (hostRead x s).btn = s.btn := rfl
@[simp] theorem hostRead_op (x : RegIndex) : (hostRead x s).op = s.op := rfl
@[simp] theorem hostRead_arg (x : RegIndex) : (hostRead x s).arg = s.arg := rfl
@[simp] theorem hostRead_scnt (x : RegIndex) : (hostRead x s).scnt = s.scnt := rfl
@[simp] theorem hostRead_digH (x : RegIndex) : (hostRead x s).digH = s.digH := rfl
@[simp] theorem hostRead_digT (x : RegIndex) : (hostRead x s).digT = s.digT := rfl
@[simp] theorem hostRead_digU (x : RegIndex) : (hostRead x s).digU = s.digU := rfl
@[simp] theorem hostRead_blk (x : RegIndex) : (hostRead x s).blk = s.blk := rfl
@[simp] theorem hostRead_rep (x : RegIndex) : (hostRead x s).rep = s.rep := rfl
@[simp] theorem hostRead_idx (x : RegIndex) : (hostRead x s).idx = s.idx := rfl
@[simp] theorem hostRead_dly (x : RegIndex) : (hostRead x s).dly = s.dly := rfl
@[simp] theorem hostRead_busy (x : RegIndex) : (hostRead x s).busy = s.busy := rfl
@[simp] theorem hostRead_done (x : RegIndex) : (hostRead x s).done = s.done := rfl
@[simp] theorem hostRead_hit (x : RegIndex) : (hostRead x s).hit = s.hit := rfl
@[simp] theorem hostRead_err (x : RegIndex) : (hostRead x s).err = s.err := rfl
@[simp] theorem hostRead_result (x : RegIndex) : (hostRead x s).result = s.result := rfl
@[simp] theorem hostRead_mode (x : RegIndex) : (hostRead x s).mode = s.mode := rfl
@[simp] theorem hostRead_led (x : RegIndex) : (hostRead x s).led = s.led := rfl
@[simp] theorem hostRead_trace (x : RegIndex) : (hostRead x s).trace = s.trace := rfl
@[simp] theorem hostRead_samples (x : RegIndex) : (hostRead x s).samples = s.samples := rfl
@[simp] theorem hostRead_pads (x : RegIndex) : (hostRead x s).pads = s.pads := rfl
@[simp] theorem hostRead_draws (x : RegIndex) : (hostRead x s).draws = s.draws := rfl
@[simp] theorem hostRead_fresh (x : RegIndex) : (hostRead x s).fresh = s.fresh := rfl
@[simp] theorem hostRead_turns (x : RegIndex) : (hostRead x s).turns = s.turns := rfl
@[simp] theorem hostRead_reads (x : RegIndex) : (hostRead x s).reads = s.reads ++ [⟨x, readRegister x s⟩] := rfl

/-! ### `resetMachine` -/

@[simp] theorem resetMachine_cfg : (resetMachine s).cfg = s.cfg := rfl
@[simp] theorem resetMachine_ph : (resetMachine s).ph = State.reset.ph := rfl
@[simp] theorem resetMachine_seed : (resetMachine s).seed = State.reset.seed := rfl
@[simp] theorem resetMachine_tmp : (resetMachine s).tmp = State.reset.tmp := rfl
@[simp] theorem resetMachine_key : (resetMachine s).key = State.reset.key := rfl
@[simp] theorem resetMachine_cnt : (resetMachine s).cnt = State.reset.cnt := rfl
@[simp] theorem resetMachine_btn : (resetMachine s).btn = State.reset.btn := rfl
@[simp] theorem resetMachine_op : (resetMachine s).op = State.reset.op := rfl
@[simp] theorem resetMachine_arg : (resetMachine s).arg = State.reset.arg := rfl
@[simp] theorem resetMachine_scnt : (resetMachine s).scnt = State.reset.scnt := rfl
@[simp] theorem resetMachine_digH : (resetMachine s).digH = State.reset.digH := rfl
@[simp] theorem resetMachine_digT : (resetMachine s).digT = State.reset.digT := rfl
@[simp] theorem resetMachine_digU : (resetMachine s).digU = State.reset.digU := rfl
@[simp] theorem resetMachine_blk : (resetMachine s).blk = State.reset.blk := rfl
@[simp] theorem resetMachine_rep : (resetMachine s).rep = State.reset.rep := rfl
@[simp] theorem resetMachine_idx : (resetMachine s).idx = State.reset.idx := rfl
@[simp] theorem resetMachine_dly : (resetMachine s).dly = State.reset.dly := rfl
@[simp] theorem resetMachine_busy : (resetMachine s).busy = State.reset.busy := rfl
@[simp] theorem resetMachine_done : (resetMachine s).done = State.reset.done := rfl
@[simp] theorem resetMachine_hit : (resetMachine s).hit = State.reset.hit := rfl
@[simp] theorem resetMachine_err : (resetMachine s).err = State.reset.err := rfl
@[simp] theorem resetMachine_result : (resetMachine s).result = State.reset.result := rfl
@[simp] theorem resetMachine_mode : (resetMachine s).mode = State.reset.mode := rfl
@[simp] theorem resetMachine_led : (resetMachine s).led = State.reset.led := rfl
@[simp] theorem resetMachine_trace : (resetMachine s).trace = State.reset.trace := rfl
@[simp] theorem resetMachine_samples : (resetMachine s).samples = s.samples := rfl
@[simp] theorem resetMachine_pads : (resetMachine s).pads = s.pads := rfl
@[simp] theorem resetMachine_draws : (resetMachine s).draws = s.draws := rfl
@[simp] theorem resetMachine_fresh : (resetMachine s).fresh = s.fresh := rfl
@[simp] theorem resetMachine_turns : (resetMachine s).turns = s.turns := rfl
@[simp] theorem resetMachine_reads : (resetMachine s).reads = s.reads := rfl

end Sys2Proof.Machine
end

