-- ==== Sys2Proof/Laws/Exec.lean ====
section
/-!
SUPPORT. What `exec` can do, said once: accept, or one primitive of the command. Later proofs cite
`exec_next` and go through its cases.
-/

namespace Sys2Proof.Machine

/-- With `BUSY = 0` every command is accepted. -/
theorem exec_idle (i : Instr) (s : State) (h : s.busy = false) : exec i s = .next (accept i s) := by
  cases i <;> simp [exec, execRndch, execRndrg, execRound, execScore, execAnims, execAnimf, h]

/-- Everything one step of a running command can be, with the phase it stands in. -/
inductive Primitive (s : State) : Instr → State → Prop
  | sample (i : Instr) (a : SampleAt)
      (hi : i = .rndch ∨ (∃ r, i = .rndrg r) ∨ ∃ b, i = .round b) (h : s.ph = .sample a) :
      Primitive s i (sampleStep a s)
  | finishChannel (h : s.ph = .mix) : Primitive s .rndch (Machine.finishChannel (mixChannel s))
  | finishRange (r : Half) (h : s.ph = .mix) :
      Primitive s (.rndrg r) (Machine.finishRange (mixRange s))
  | enterShow (b : Half) (h : s.ph = .mix) :
      Primitive s (.round b) (Machine.enterShow (mixChannel s))
  | showTarget (b : Half) (a : ShowAt) (h : s.ph = .showTarget a) :
      Primitive s (.round b) (showStep a s)
  | await (b : Half) (a : AwaitAt) (h : s.ph = .await a) : Primitive s (.round b) (awaitStep a s)
  | relWait (b : Half) (o : RoundOutcome) (h : s.ph = .relWait o) :
      Primitive s (.round b) (releaseStep o s)
  | resHit (b : Half) (h : s.ph = .resHit) : Primitive s (.round b) (complete 1#16 true s)
  | resFail (b : Half) (h : s.ph = .resFail) : Primitive s (.round b) (complete 0#16 false s)
  | dispEnter (x : Half) (h : s.ph = .dispEnter) : Primitive s (.score x) (enterDisplay s)
  | dispH (x : Half) (a : BlinkAt) (h : s.ph = .dispH a) :
      Primitive s (.score x) (blinkStep hundredsChannel .dispH toTens a s)
  | dispT (x : Half) (a : BlinkAt) (h : s.ph = .dispT a) :
      Primitive s (.score x) (blinkStep tensChannel .dispT toUnits a s)
  | dispU (x : Half) (a : BlinkAt) (h : s.ph = .dispU a) :
      Primitive s (.score x) (blinkStep unitsChannel .dispU (complete 0#16 false) a s)
  | animS (a : StartAnimAt) (h : s.ph = .animS a) : Primitive s .anims (startAnimStep a s)
  | animF (a : FailAnimAt) (h : s.ph = .animF a) : Primitive s .animf (failAnimStep a s)

/-- The inversion of `exec`. -/
theorem exec_next {i : Instr} {s t : State} (h : exec i s = .next t) :
    (s.busy = false ∧ t = accept i s) ∨ (s.busy = true ∧ Primitive s i t) := by
  cases hb : s.busy
  · rw [exec_idle i s hb] at h
    cases h
    exact .inl ⟨rfl, rfl⟩
  · refine .inr ⟨rfl, ?_⟩
    cases i <;>
      simp only [exec, execRndch, execRndrg, execRound, execScore, execAnims, execAnimf, hb] at h <;>
      cases hp : s.ph <;> simp only [hp, Host.Outcome.next.injEq, reduceCtorEq] at h <;> subst h
    · exact .sample _ _ (by simp) hp
    · exact .finishChannel hp
    · exact .sample _ _ (by simp) hp
    · exact .finishRange _ hp
    · exact .sample _ _ (by simp) hp
    · exact .enterShow _ hp
    · exact .showTarget _ _ hp
    · exact .await _ _ hp
    · exact .relWait _ _ hp
    · exact .resHit _ hp
    · exact .resFail _ hp
    · exact .dispEnter _ hp
    · exact .dispH _ _ hp
    · exact .dispT _ _ hp
    · exact .dispU _ _ hp
    · exact .animS _ hp
    · exact .animF _ hp

/-- The other direction: a primitive of the running command in its phase is what `exec` does. -/
theorem exec_of_primitive {i : Instr} {s t : State} (hb : s.busy = true) (h : Primitive s i t) :
    exec i s = .next t := by
  cases h
  case sample a hp hi =>
    rcases hi with rfl | ⟨r, rfl⟩ | ⟨b, rfl⟩ <;>
      simp only [exec, execRndch, execRndrg, execRound, hb, hp]
  all_goals
    rename_i hp
    simp only [exec, execRndch, execRndrg, execRound, execScore, execAnims, execAnimf, hb, hp]

/-- A running command in one of its phases answers a next state. -/
theorem exec_of_belongsTo {i : Instr} {s : State} (hb : s.busy = true)
    (h : s.ph.belongsTo i = true) : ∃ t, exec i s = .next t := by
  cases i <;>
    simp only [exec, execRndch, execRndrg, execRound, execScore, execAnims, execAnimf, hb] <;>
    cases hp : s.ph <;> simp_all [Phase.belongsTo]

theorem currentCommand_congr {s t : State} (h1 : t.op = s.op) (h2 : t.arg = s.arg) :
    currentCommand t = currentCommand s := by
  simp [currentCommand, h1, h2]

/-- The command in progress says what `OP` and `ARG` hold. -/
theorem op_arg_of_currentCommand {s : State} {i : Instr} (h : currentCommand s = some i) :
    s.op = opcodeOf i ∧ s.arg = operandOf i := by
  unfold currentCommand at h
  cases hd : decode (composeWord s.op 0#12 s.arg) with
  | illegal r => rw [hd] at h; cases h
  | command j =>
    rw [hd] at h
    cases h
    have hf := decode_command hd
    rw [opField_compose, argField_compose] at hf
    exact hf.2

/-- What follows `AWAIT` (R106, R108): the release wait, or the failure; only `PH` changes. -/
theorem leaveAwait_cases (s : State) :
    (leaveAwait s = { s with ph := .relWait (decideOutcome s) } ∧
      waitsForRelease s (decideOutcome s) = true) ∨
    (leaveAwait s = { s with ph := .resFail } ∧ decideOutcome s = .fail) := by
  unfold leaveAwait
  split
  · exact .inl ⟨rfl, by assumption⟩
  · rename_i h
    cases hd : decideOutcome s
    · simp [hd, waitsForRelease] at h
    · exact .inr ⟨rfl, rfl⟩

/-- A `Delay` is of 1 to 1000 periods, and `IDLE` is at none. -/
theorem delayAt_range {p : Phase} {n : Nat} (h : p.delayAt = some n) :
    1 ≤ n ∧ n ≤ 1000 ∧ p ≠ .idle := by
  unfold Phase.delayAt at h
  split at h <;> cases h <;> decide

/-- One latch is written and the other three are as they were. -/
theorem withLatch_getLsbD (l : Pads) (c j : Channel) (b : Bool) :
    (withLatch l c b).getLsbD j.toNat = if j = c then b else l.getLsbD j.toNat := by
  revert l c j b
  decide

/-- The scaled product fits its 16 bits, so that its narrowing loses nothing. -/
theorem scaled_product_lt (r x : Half) : r.toNat * x.toNat / scaleDiv < 2 ^ 16 := by
  have hr := r.isLt
  have hx := x.isLt
  have h : r.toNat * x.toNat ≤ r.toNat * 65535 := Nat.mul_le_mul_left _ (by omega)
  simp only [scaleDiv]
  omega

end Sys2Proof.Machine
end

