-- ==== Sys2Proof/Laws/PerInstr.lean ====
section
/-!
SUPPORT. The family `EncodeFields`: what the three fields of a command's word are (R60 to R62), one lemma
per constructor of `Instr`.
-/

namespace Sys2Proof.Laws.EncodeFields

/-- The fields of the word of `i`. -/
def Statement (i : Instr) : Prop :=
  opField (encode i) = opcodeOf i ∧ zeroField (encode i) = 0#12 ∧ argField (encode i) = operandOf i

/-- The fields of any composed word are the fields it is composed of. -/
theorem statement_of_compose (i : Instr) : Statement i :=
  ⟨opField_compose .., zeroField_compose .., argField_compose ..⟩

theorem rndch : Statement .rndch := statement_of_compose _

theorem rndrg (range : Half) : Statement (.rndrg range) := statement_of_compose _

theorem round (budget : Half) : Statement (.round budget) := statement_of_compose _

theorem score (score : Half) : Statement (.score score) := statement_of_compose _

theorem anims : Statement .anims := statement_of_compose _

theorem animf : Statement .animf := statement_of_compose _

end Sys2Proof.Laws.EncodeFields
end

