-- ==== Sys2Proof/Laws/Turns.lean ====
section
/-!
SUPPORT. What a turn and a step can do, said once: later proofs cite `step_next` and never unfold `step`.
-/

namespace Sys2Proof.Machine

/-! ### `setTurns` -/

@[simp] theorem setTurns_cfg (rest : List Turn) (s : State) : (setTurns rest s).cfg = s.cfg := rfl
@[simp] theorem setTurns_ph (rest : List Turn) (s : State) : (setTurns rest s).ph = s.ph := rfl
@[simp] theorem setTurns_seed (rest : List Turn) (s : State) : (setTurns rest s).seed = s.seed := rfl
@[simp] theorem setTurns_tmp (rest : List Turn) (s : State) : (setTurns rest s).tmp = s.tmp := rfl
@[simp] theorem setTurns_key (rest : List Turn) (s : State) : (setTurns rest s).key = s.key := rfl
@[simp] theorem setTurns_cnt (rest : List Turn) (s : State) : (setTurns rest s).cnt = s.cnt := rfl
@[simp] theorem setTurns_btn (rest : List Turn) (s : State) : (setTurns rest s).btn = s.btn := rfl
@[simp] theorem setTurns_op (rest : List Turn) (s : State) : (setTurns rest s).op = s.op := rfl
@[simp] theorem setTurns_arg (rest : List Turn) (s : State) : (setTurns rest s).arg = s.arg := rfl
@[simp] theorem setTurns_scnt (rest : List Turn) (s : State) : (setTurns rest s).scnt = s.scnt := rfl
@[simp] theorem setTurns_digH (rest : List Turn) (s : State) : (setTurns rest s).digH = s.digH := rfl
@[simp] theorem setTurns_digT (rest : List Turn) (s : State) : (setTurns rest s).digT = s.digT := rfl
@[simp] theorem setTurns_digU (rest : List Turn) (s : State) : (setTurns rest s).digU = s.digU := rfl
@[simp] theorem setTurns_blk (rest : List Turn) (s : State) : (setTurns rest s).blk = s.blk := rfl
@[simp] theorem setTurns_rep (rest : List Turn) (s : State) : (setTurns rest s).rep = s.rep := rfl
@[simp] theorem setTurns_idx (rest : List Turn) (s : State) : (setTurns rest s).idx = s.idx := rfl
@[simp] theorem setTurns_dly (rest : List Turn) (s : State) : (setTurns rest s).dly = s.dly := rfl
@[simp] theorem setTurns_busy (rest : List Turn) (s : State) : (setTurns rest s).busy = s.busy := rfl
@[simp] theorem setTurns_done (rest : List Turn) (s : State) : (setTurns rest s).done = s.done := rfl
@[simp] theorem setTurns_hit (rest : List Turn) (s : State) : (setTurns rest s).hit = s.hit := rfl
@[simp] theorem setTurns_err (rest : List Turn) (s : State) : (setTurns rest s).err = s.err := rfl
@[simp] theorem setTurns_result (rest : List Turn) (s : State) : (setTurns rest s).result = s.result := rfl
@[simp] theorem setTurns_mode (rest : List Turn) (s : State) : (setTurns rest s).mode = s.mode := rfl
@[simp] theorem setTurns_led (rest : List Turn) (s : State) : (setTurns rest s).led = s.led := rfl
@[simp] theorem setTurns_trace (rest : List Turn) (s : State) : (setTurns rest s).trace = s.trace := rfl
@[simp] theorem setTurns_samples (rest : List Turn) (s : State) : (setTurns rest s).samples = s.samples := rfl
@[simp] theorem setTurns_pads (rest : List Turn) (s : State) : (setTurns rest s).pads = s.pads := rfl
@[simp] theorem setTurns_draws (rest : List Turn) (s : State) : (setTurns rest s).draws = s.draws := rfl
@[simp] theorem setTurns_fresh (rest : List Turn) (s : State) : (setTurns rest s).fresh = s.fresh := rfl
@[simp] theorem setTurns_turns (rest : List Turn) (s : State) : (setTurns rest s).turns = rest := rfl
@[simp] theorem setTurns_reads (rest : List Turn) (s : State) : (setTurns rest s).reads = s.reads := rfl

theorem currentCommand_setTurns (rest : List Turn) (s : State) :
    currentCommand (setTurns rest s) = currentCommand s := rfl

theorem wf_iff_nodup (c : Config) : c.wf = true ↔ c.bind.toList.Nodup := by
  simp [Config.wf]

/-! ### One equation for each kind of turn -/

theorem coreTurn_busy {s : State} {i : Instr} (hb : s.busy = true)
    (hc : currentCommand s = some i) : coreTurn s = exec i s := by
  unfold coreTurn
  rw [if_pos hb, hc]

theorem coreTurn_idle {s : State} (hb : s.busy = false) : coreTurn s = .next s := by
  unfold coreTurn
  rw [hb]
  rfl

theorem step_cons {s : State} {x : Turn} {rest : List Turn} (hw : s.cfg.wf = true)
    (ht : s.turns = x :: rest) : step s = takeTurn x (setTurns rest s) := by
  unfold step nextTurn
  rw [if_pos hw, ht]

theorem step_nil {s : State} (hw : s.cfg.wf = true) (ht : s.turns = []) :
    step s = coreTurn s := by
  unfold step nextTurn
  rw [if_pos hw, ht]

theorem tickTurn_noDelay {s : State} (h : s.ph.delayAt = none) : tickTurn s = .next s := by
  unfold tickTurn
  rw [h]

theorem tickTurn_idle {s : State} (hb : s.busy = false) : tickTurn s = .next s := by
  unfold tickTurn
  split
  · rfl
  · rw [if_pos hb]

theorem tickTurn_begin {s : State} {n : Nat} (hb : s.busy = true) (h : s.ph.delayAt = some n)
    (hd : s.dly = 0#10) : tickTurn s = .next (beginDelay n s) := by
  simp [tickTurn, h, hb, hd]

theorem tickTurn_count {s : State} {n : Nat} (hb : s.busy = true) (h : s.ph.delayAt = some n)
    (h0 : s.dly ≠ 0#10) (h1 : s.dly ≠ 1#10) : tickTurn s = .next (countPeriod s) := by
  simp [tickTurn, h, hb, h0, h1]

theorem tickTurn_last {s : State} {n : Nat} (hb : s.busy = true) (h : s.ph.delayAt = some n)
    (h1 : s.dly = 1#10) : tickTurn s = coreTurn s := by
  simp [tickTurn, h, hb, h1]

theorem writeCommand_command {s : State} {w : Word} {i : Instr} (hb : s.busy = false)
    (hd : decode w = .command i) : writeCommand w s = exec i s := by
  unfold writeCommand
  rw [hb, hd]
  rfl

theorem writeCommand_illegal {s : State} {w : Word} {r : IllegalWord} (hb : s.busy = false)
    (hd : decode w = .illegal r) : writeCommand w s = .next (raiseIllegalCommand s) := by
  unfold writeCommand
  rw [hb, hd]
  rfl

theorem writeCommand_busy {s : State} {w : Word} (hb : s.busy = true) :
    writeCommand w s = .next s := by
  unfold writeCommand
  rw [if_pos hb]

/-! ### What a step can do -/

/-- Everything a turn that is not a reset can make of `s`; `s'` is `s` with the schedule moved on. -/
inductive TurnEffect (s s' : State) : State → Prop
  /-- nothing: an idle core, a dropped or ignored write, a tick at no delay -/
  | same (h : s.busy = false ∨ ∃ x, s.turns.head? = some x ∧ x ≠ .core) : TurnEffect s s' s'
  /-- the first tick of a delay -/
  | beginDelay (n : Nat) (hb : s.busy = true) (h : s.ph.delayAt = some n) (hd : s.dly = 0#10) :
      TurnEffect s s' (Machine.beginDelay n s')
  /-- a further tick of a delay that is not its last -/
  | countPeriod (n : Nat) (hb : s.busy = true) (h : s.ph.delayAt = some n) (hd : s.dly ≠ 0#10)
      (h1 : s.dly ≠ 1#10) : TurnEffect s s' (Machine.countPeriod s')
  /-- one step of the running command -/
  | run (i : Instr) (t : State) (hb : s.busy = true) (hc : currentCommand s = some i)
      (h : exec i s' = .next t) : TurnEffect s s' t
  /-- a legal `CMD` write -/
  | accept (i : Instr) (w : Word) (hb : s.busy = false) (ht : s.turns.head? = some (.write 0#2 w))
      (hd : decode w = .command i) : TurnEffect s s' (Machine.accept i s')
  /-- an illegal `CMD` write -/
  | illegal (w : Word) (r : IllegalWord) (hb : s.busy = false)
      (ht : s.turns.head? = some (.write 0#2 w)) (hd : decode w = .illegal r) :
      TurnEffect s s' (raiseIllegalCommand s')
  /-- a host read -/
  | read (x : RegIndex) (ht : s.turns.head? = some (.read x)) : TurnEffect s s' (hostRead x s')

theorem coreTurn_next {s t : State} {rest : List Turn}
    (h : coreTurn (setTurns rest s) = .next t) : TurnEffect s (setTurns rest s) t := by
  unfold coreTurn at h
  split at h
  · rename_i hb
    split at h
    · rename_i i hc
      exact .run i t hb hc h
    · cases h
  · rename_i hb
    cases h
    exact .same (.inl (by simpa using hb))

/-- The inversion of `step`. -/
theorem step_next {s t : State} (h : step s = .next t) :
    (∃ rest, s.turns = .reset :: rest ∧ t = resetMachine (setTurns rest s)) ∨
      TurnEffect s (setTurns s.turns.tail s) t := by
  unfold step at h
  split at h
  swap
  · cases h
  unfold nextTurn at h
  cases ht : s.turns with
  | nil =>
    rw [ht] at h
    have e : s = setTurns [] s := by unfold setTurns; rw [← ht]
    simp only at h
    rw [e] at h
    exact .inr (coreTurn_next h)
  | cons x rest =>
    rw [ht] at h
    simp only [List.tail_cons]
    cases x with
    | core => exact .inr (coreTurn_next h)
    | reset => simp only [takeTurn] at h; cases h; exact .inl ⟨rest, rfl, rfl⟩
    | read x => simp only [takeTurn] at h; cases h; exact .inr (.read x (by simp [ht]))
    | tick =>
      right
      simp only [takeTurn, tickTurn] at h
      split at h
      · cases h; exact .same (.inr ⟨.tick, by simp [ht], by simp⟩)
      · rename_i n hn
        split at h
        · cases h; exact .same (.inr ⟨.tick, by simp [ht], by simp⟩)
        rename_i hb
        have hb : s.busy = true := by simpa using hb
        split at h
        · rename_i h0; cases h; exact .beginDelay n hb hn h0
        split at h
        · exact coreTurn_next h
        · rename_i h0 h1; cases h; exact .countPeriod n hb hn h0 h1
    | write x w =>
      right
      simp only [takeTurn, hostWrite] at h
      split at h
      · rename_i hx
        subst hx
        unfold writeCommand at h
        split at h
        · cases h; exact .same (.inr ⟨.write 0#2 w, by simp [ht], by simp⟩)
        · rename_i hb
          have hb : s.busy = false := by simpa using hb
          split at h
          · rename_i i hd
            rw [exec_idle i (setTurns rest s) hb] at h
            cases h
            exact .accept i w hb (by simp [ht]) hd
          · rename_i r hd
            cases h
            exact .illegal w r hb (by simp [ht]) hd
      · cases h; exact .same (.inr ⟨.write x w, by simp [ht], by simp⟩)

end Sys2Proof.Machine
end

