-- ==== Sys2Proof/Tests/Slice0.lean ====
section
/-!
SUPPORT. The model's own tests: words written out from spec/30_encoding.md R60 to R63, single steps with
the values of spec/95_test_vectors.md, ill-formed words and bindings, and for every statement with
hypotheses a concrete state that meets them.
-/

namespace Sys2Proof.Tests

open Sys2Proof Sys2Proof.Machine

/-! ### Decoding: one word for every command, written bit by bit (R60, R62; vectors D-1 to D-19) -/

theorem test_decode_rndch :
    decode 0b0001_000000000000_0000000000000000#32 = .command .rndch := by decide

theorem test_decode_rndrg_100 :
    decode 0b0010_000000000000_0000000001100100#32 = .command (.rndrg 100) := by decide

theorem test_decode_round_50 :
    decode 0b0011_000000000000_0000000000110010#32 = .command (.round 50) := by decide

theorem test_decode_score_305 :
    decode 0b0100_000000000000_0000000100110001#32 = .command (.score 305) := by decide

theorem test_decode_anims :
    decode 0b0101_000000000000_0000000000000000#32 = .command .anims := by decide

theorem test_decode_animf :
    decode 0b0110_000000000000_0000000000000000#32 = .command .animf := by decide

/-- Each bit of `arg` is read at its own place: one operand bit from each end and the middle. -/
theorem test_decode_operand_bits :
    decode 0b0011_000000000000_1000000000000000#32 = .command (.round 32768) ∧
    decode 0b0011_000000000000_0000000100000000#32 = .command (.round 256) ∧
    decode 0b0011_000000000000_0000000000000001#32 = .command (.round 1) := by decide

/-- D-13, D-16, D-17: the reserved opcodes at both ends; D-17 has its `zero` field set too. -/
theorem test_decode_reserved_opcodes :
    decode 0x00000000#32 = .illegal .reservedOpcode ∧
    decode 0x70000000#32 = .illegal .reservedOpcode ∧
    decode 0xF0000000#32 = .illegal .reservedOpcode ∧
    (decode 0xFFFFFFFF#32).instr = none := by decide

/-- D-15, D-19: the lowest and the highest bit of the field `zero`. -/
theorem test_decode_zero_field :
    decode 0x30010032#32 = .illegal .zeroFieldSet ∧
    decode 0x38000005#32 = .illegal .zeroFieldSet := by decide

/-- D-14, D-18: an operand where the command has none. -/
theorem test_decode_operand_not_zero :
    decode 0x10000001#32 = .illegal .operandNotZero ∧
    decode 0x50008000#32 = .illegal .operandNotZero ∧
    decode 0x60000001#32 = .illegal .operandNotZero := by decide

/-- The opcode table's numbering: bit 0 is the least significant. -/
theorem test_decodeTableWord :
    decodeTableWord 32 0x10000000 = some .rndch ∧
    decodeTableWord 32 0x2000FFFF = some (.rndrg 65535) ∧
    decodeTableWord 32 0x3000000A = some (.round 10) ∧
    decodeTableWord 32 0x400003E7 = some (.score 999) ∧
    decodeTableWord 32 0x50000000 = some .anims ∧
    decodeTableWord 32 0x60000000 = some .animf ∧
    decodeTableWord 32 0x60000001 = none := by decide

/-! ### WellFormed: an ill-formed term for each check -/

theorem test_wf_opcode_refused : Word.opLegal 0x70000000#32 = false ∧
    Word.opLegal 0x00000000#32 = false ∧ Word.wf 0x70000000#32 = false := by decide

theorem test_wf_zero_field_refused : Word.zeroLegal 0x30010032#32 = false ∧
    Word.wf 0x30010032#32 = false := by decide

theorem test_wf_operand_refused : Word.operandLegal 0x10000001#32 = false ∧
    Word.wf 0x10000001#32 = false := by decide

theorem test_wf_words_accepted : Word.wf 0x10000000#32 = true ∧ Word.wf 0x2000FFFF#32 = true ∧
    Word.wf 0x60000000#32 = true := by decide

theorem test_wf_bind_not_distinct_refused :
    Config.wf { Config.default with bind := #v[⟨0, 1⟩, ⟨0, 2⟩, ⟨0, 1⟩, ⟨0, 3⟩] } = false := by decide

theorem test_wf_default_bind : Config.default.wf = true := by decide

/-! ### States the tests start from -/

/-- The command `i` is running and stands at `p`; every other register is as after reset. -/
def running (i : Instr) (p : Phase) : State :=
  { State.reset with op := opcodeOf i, arg := operandOf i, busy := true, ph := p }

/-- `f` of the next state, if the outcome is one. -/
def after {α : Type} (f : State → α) : Result → Option α
  | .next t => some (f t)
  | .fault _ => none
  | .refused _ => none

/-! ### The first step after reset runs the word that `withFetchWord` placed -/

theorem test_withFetchWord_round :
    after (fun t => (t.busy, t.op, t.arg, t.ph)) (step (State.reset.withFetchWord 32 0x30000032)) =
      some (true, 3#4, 50#16, .sample .seedInit) := by decide

theorem test_withFetchWord_anims :
    after (fun t => (t.busy, t.op, t.arg, t.ph)) (step (State.reset.withFetchWord 32 0x50000000)) =
      some (true, 5#4, 0#16, .animS .enter) := by decide

/-! ### One step of each command, with the values of spec/95_test_vectors.md -/

/-- E-11, E-34: `MIX` of `RNDCH` from the accumulated seed 0xBCF0. -/
theorem test_rndch_mix :
    after (fun t => (t.seed, t.tmp, t.result, t.done))
      (exec .rndch { running .rndch .mix with seed := 0xBCF0#16 }) =
      some (0x66C9#16, 0x78F4#16, 0#16, true) := by decide

/-- R82, R80: the 25th sample ends `SAMPLE`; the running XOR of `V` goes from 0190 with 038F to 021F. -/
theorem test_rndch_last_sample :
    after (fun t => (t.seed, t.scnt, t.ph))
      (exec .rndch { running .rndch (.sample .accumulate) with
        seed := 0x0190#16, scnt := 24#5, samples := [0x038F] }) =
      some (0x021F#16, 25#5, .mix) := by decide

/-- E-35: `RNDRG 100` from 0xBCF0 gives 37. -/
theorem test_rndrg_mix :
    after (fun t => (t.seed, t.tmp, t.result))
      (exec (.rndrg 100) { running (.rndrg 100) .mix with seed := 0xBCF0#16 }) =
      some (0x66C9#16, 0x60C5#16, 37#16) := by decide

/-- E-43: the one accumulated seed whose result is the range itself. -/
theorem test_rndrg_top :
    after (fun t => t.result)
      (exec (.rndrg 6) { running (.rndrg 6) .mix with seed := 0xF9FB#16 }) = some 6#16 := by decide

/-- R-E: with the key 1 and buttons 0 and 1 down, the lowest is 0: a Miss, at once, `CNT` not touched. -/
theorem test_round_lowest_button_misses :
    after (fun t => (t.ph, t.cnt, t.btn))
      (exec (.round 5) { running (.round 5) (.await .test) with
        key := 1#2, cnt := 5#16, pads := [0b1100#4] }) =
      some (.resFail, 5#16, 0b0011#4) := by decide

/-- R-D: with buttons 1 and 3 down the lowest is the key 1: a Hit, and the release wait begins. -/
theorem test_round_hit_waits :
    after (fun t => (t.ph, t.cnt, t.btn))
      (exec (.round 5) { running (.round 5) (.await .test) with
        key := 1#2, cnt := 5#16, pads := [0b0101#4] }) =
      some (.relWait .hit, 5#16, 0b1010#4) := by decide

/-- SC-2: the digits of 305. -/
theorem test_score_digits :
    after (fun t => (t.digH, t.digT, t.digU, t.blk, t.mode))
      (exec (.score 305) (running (.score 305) .dispEnter)) =
      some (3#10, 0#4, 5#4, 3#10, 0b1111#4) := by decide

/-- SC-9: the hundreds of 65535 are not reduced modulo 10. -/
theorem test_score_large :
    after (fun t => (t.digH, t.digT, t.digU))
      (exec (.score 65535) (running (.score 65535) .dispEnter)) =
      some (655#10, 3#4, 5#4) := by decide

/-- A-1: in the second repetition channel 0 goes off first: `LED` from 1111 to 1110. -/
theorem test_anims_off_sweep :
    after (fun t => (t.led, t.trace, t.ph))
      (exec .anims { running .anims (.animS .offWrite) with led := 0b1111#4, rep := 1#2 }) =
      some (0b1110#4, [.led 0 false], .animS .offHold) := by decide

/-- A-1: after the second on-sweep comes the pause, with all four LEDs lit. -/
theorem test_anims_pause :
    after (fun t => (t.led, t.rep, t.trace, t.ph))
      (exec .anims { running .anims (.animS .onHold) with
        led := 0b1111#4, rep := 1#2, idx := 3#3 }) =
      some (0b1111#4, 2#2, [.delay 100], .animS .pause) := by decide

/-- A-2: all four on at once. -/
theorem test_animf_on :
    after (fun t => (t.led, t.trace)) (exec .animf (running .animf (.animF .on))) =
      some (0b1111#4, [.ledAll 0b1111#4]) := by decide

/-- A-2: after the second flash the animation ends. -/
theorem test_animf_end :
    after (fun t => (t.rep, t.trace, t.ph))
      (exec .animf { running .animf (.animF .offHold) with rep := 1#2 }) =
      some (2#2, [.delay 250], .animF .finish) := by decide

/-- X-1: an illegal word sets `ERR`: `STATUS` reads 0x08. -/
theorem test_illegal_word :
    after statusWord (step { State.reset with turns := [.write 0 0x70000000#32] }) =
      some 0x08#32 := by decide

/-- P4: `STATUS` reads 0x49 in `AWAIT` with `ERR` set, and the write of `SCORE 5` is dropped. -/
theorem test_dropped_write :
    after statusWord (step { running (.round 3) (.await .test) with
      err := true, turns := [.write 0 0x40000005#32] }) = some 0x49#32 := by decide

/-- X-8: reset in the middle of a blink. -/
theorem test_reset_in_a_blink :
    after (fun t => (t.led, t.mode, t.ph, t.busy)) (step { running (.score 305) (.dispH .onHold) with
      led := 0b0100#4, mode := 0b1111#4, blk := 3#10, turns := [.reset] }) =
      some (0b0000#4, 0b0000#4, .idle, false) := by decide

/-- Log 2: a core turn finishes a delay that ticks have begun, with no second event. -/
theorem test_core_finishes_a_ticked_delay :
    after (fun t => (t.dly, t.cnt, t.ph, t.trace)) (step { running (.round 3) (.await .wait) with
      cnt := 3#16, dly := 1#10, trace := [.delay 1], turns := [.core] }) =
      some (0#10, 2#16, .await .test, [.delay 1]) := by decide

/-- R46, R149: the last tick of `Delay(1)` lets the poll loop go on. -/
theorem test_last_tick :
    after (fun t => (t.dly, t.cnt, t.ph, t.trace)) (step { running (.round 3) (.await .wait) with
      cnt := 3#16, dly := 1#10, trace := [.delay 1], turns := [.tick] }) =
      some (0#10, 2#16, .await .test, [.delay 1]) := by decide

/-! ### Witnesses: for every statement with hypotheses, a state and operands that meet them all -/

theorem witness_StepRunsDecodedCommand_write :
    ∃ (s : State) (w : Word) (i : Instr) (rest : List Turn),
      s.cfg.wf = true ∧ s.busy = false ∧ s.turns = .write 0 w :: rest ∧ decode w = .command i :=
  ⟨{ State.reset with turns := [.write 0 0x2000FFFF#32, .core] }, 0x2000FFFF#32, .rndrg 65535, [.core],
    by decide⟩

theorem witness_StepRunsDecodedCommand_core :
    ∃ (s u : State) (i : Instr) (rest : List Turn),
      s.cfg.wf = true ∧ s.busy = true ∧ currentCommand s = some i ∧ s.turns = [] ∧
      u.cfg.wf = true ∧ u.busy = true ∧ currentCommand u = some i ∧ u.turns = .core :: rest :=
  ⟨running (.score 65535) .dispEnter, { running (.score 65535) .dispEnter with turns := [.core] },
    .score 65535, [], by decide⟩

theorem witness_AcceptStartsTheCommand :
    ∃ s : State, s.busy = false ∧ s.err = true ∧ s.cfg.wf = true :=
  ⟨{ State.reset with err := true }, by decide⟩

theorem witness_IllegalWordSetsErrOnly :
    ∃ (s u : State) (w : Word) (rest : List Turn),
      s.cfg.wf = true ∧ s.turns = .write 0 w :: rest ∧ (decode w).instr = none ∧ s.busy = false ∧
      u.cfg.wf = true ∧ u.turns = .write 0 w :: rest ∧ u.busy = true :=
  ⟨{ State.reset with turns := [.write 0 0x60000001#32] },
    { running .animf (.animF .on) with turns := [.write 0 0x60000001#32] }, 0x60000001#32, [],
    by decide⟩

theorem witness_BusyCommandWriteIsDropped :
    ∃ (s : State) (w : Word) (rest : List Turn),
      s.cfg.wf = true ∧ s.busy = true ∧ s.turns = .write 0 w :: rest :=
  ⟨{ running .anims (.animS .pause) with turns := [.write 0 0x10000000#32] }, 0x10000000#32, [],
    by decide⟩

theorem witness_ErrIsStickyAndHarmless :
    ∃ (i : Instr) (s t : State), step s = .next t ∧ s.err = true ∧ exec i s = .next t :=
  ⟨.animf, { running .animf (.animF .on) with err := true },
    { running .animf (.animF .onHold) with err := true, led := 0b1111#4, trace := [.ledAll 0b1111#4] },
    rfl, rfl, rfl⟩

theorem witness_HostAccessesOtherThanCommand :
    ∀ x : RegIndex, ∃ (s u : State) (w : Word) (rest : List Turn),
      s.cfg.wf = true ∧ s.turns = .read x :: rest ∧
      u.cfg.wf = true ∧ u.turns = .write x w :: rest :=
  fun x => ⟨{ State.reset with turns := [.read x] },
    { State.reset with turns := [.write x 0xFFFFFFFF#32] }, 0xFFFFFFFF#32, [], rfl, rfl, rfl, rfl⟩

theorem witness_ResetGivesTheResetValues :
    ∃ (s : State) (rest : List Turn),
      s.cfg.wf = true ∧ s.turns = .reset :: rest ∧ s.busy = true ∧ s.err = true :=
  ⟨{ running (.round 5) (.relWait .hit) with err := true, turns := [.reset] }, [], by decide⟩

theorem witness_OnlyCompletionOrResetEndsACommand :
    ∃ s t : State, step s = .next t ∧ s.busy = true ∧ t.busy = false :=
  ⟨running .animf (.animF .finish), complete 0#16 false (running .animf (.animF .finish)),
    rfl, rfl, rfl⟩

theorem witness_FlagsChangeOnlyAtAcceptAndCompletion :
    ∃ (i : Instr) (s t : State), exec i s = .next t ∧ s.busy = true ∧ t.busy = true :=
  ⟨.animf, running .animf (.animF .on),
    { running .animf (.animF .onHold) with led := 0b1111#4, trace := [.ledAll 0b1111#4] },
    rfl, rfl, rfl⟩

theorem witness_StepAppendsAtMostOneEvent :
    ∃ s t : State, step s = .next t ∧ (∀ rest, s.turns ≠ .reset :: rest) ∧ t.trace ≠ s.trace :=
  ⟨running .animf (.animF .on),
    { running .animf (.animF .onHold) with led := 0b1111#4, trace := [.ledAll 0b1111#4] },
    rfl, by simp [running, State.reset], by decide⟩

/-- One witness for each clause over `step`: an accept, a completion, an illegal word. -/
theorem witness_FlagsChangeOnlyAtAcceptAndCompletion_step :
    ∃ s t u v w x : State,
      step s = .next t ∧ (∀ rest, s.turns ≠ .reset :: rest) ∧ t.op ≠ s.op ∧
      step u = .next v ∧ (∀ rest, u.turns ≠ .reset :: rest) ∧ v.done ≠ u.done ∧
      step w = .next x ∧ (∀ rest, w.turns ≠ .reset :: rest) ∧ x.err ≠ w.err :=
  ⟨{ State.reset with turns := [.write 0 0x50000000#32] }, accept .anims State.reset,
    running .animf (.animF .finish), complete 0#16 false (running .animf (.animF .finish)),
    { State.reset with turns := [.write 0 0x00000000#32] }, { State.reset with err := true },
    rfl, by simp, by decide, rfl, by simp [running, State.reset], by decide, rfl, by simp, by decide⟩

theorem witness_IdleCoreWaitsForALegalCommand :
    ∃ s t u v w x : State,
      step s = .next t ∧ s.busy = false ∧ t.busy = true ∧
      u.cfg.wf = true ∧ u.busy = false ∧ u.turns = [] ∧
      v.cfg.wf = true ∧ v.busy = false ∧ v.turns = [.core] ∧
      w.cfg.wf = true ∧ w.busy = false ∧ w.turns = [.tick] ∧
      x.cfg.wf = true ∧ x.busy = true ∧ x.turns = [.tick] ∧ x.ph.delayAt = none :=
  ⟨{ State.reset with turns := [.write 0 0x50000000#32] }, accept .anims State.reset, State.reset,
    { State.reset with turns := [.core] }, { State.reset with turns := [.tick] },
    { running .anims (.animS .onWrite) with turns := [.tick] }, rfl, by decide⟩

/-- A round in `AWAIT` at its first poll, with the answer "button 1 is down" to come. -/
def awaiting : State :=
  { running (.round 3) (.await .test) with key := 1#2, cnt := 3#16, pads := [0b1101#4] }

/-- A score at the test of its first blink. -/
def blinking : State :=
  { running (.score 305) (.dispH .test) with
    mode := 0b1111#4, digH := 3#10, digU := 5#4, blk := 3#10 }

/-- A round before the LEDs go off. -/
def showing : State :=
  { running (.round 3) (.showTarget .deassert) with key := 1#2, mode := 0b1111#4, led := 0b0010#4 }

theorem inv_awaiting : Inv awaiting where
  mode_uniform := by decide
  busy_iff := by decide
  done_idle := by decide
  hit_round := by decide
  running := fun _ => ⟨.round 3, by decide⟩
  countdown := fun _ _ => by decide
  waiting := by decide
  unpressed := fun _ _ => by decide
  result_channel := by decide
  result_range := by decide
  result_round := by decide
  driving := by decide
  reading := by decide
  delaying := fun h => absurd rfl h

theorem inv_blinking : Inv blinking where
  mode_uniform := by decide
  busy_iff := by decide
  done_idle := by decide
  hit_round := by decide
  running := fun _ => ⟨.score 305, by decide⟩
  countdown := fun _ h => by simp [blinking, running] at h
  waiting := by decide
  unpressed := fun _ h => by simp [blinking, running] at h
  result_channel := by decide
  result_range := by decide
  result_round := by decide
  driving := by decide
  reading := by decide
  delaying := fun h => absurd rfl h

theorem inv_showing : Inv showing where
  mode_uniform := by decide
  busy_iff := by decide
  done_idle := by decide
  hit_round := by decide
  running := fun _ => ⟨.round 3, by decide⟩
  countdown := fun _ h => by simp [showing, running] at h
  waiting := by decide
  unpressed := fun _ h => by simp [showing, running] at h
  result_channel := by decide
  result_range := by decide
  result_round := by decide
  driving := by decide
  reading := by decide
  delaying := fun h => absurd rfl h

theorem witness_StepKeepsReachableStateInvariant :
    ∃ s t : State, Inv s ∧ step s = .next t ∧ s.ph ≠ t.ph :=
  ⟨awaiting, { awaiting with
      ph := .relWait .hit, btn := 0b0010#4, pads := [], fresh := 1, trace := [.btn 0b0010#4] },
    inv_awaiting, rfl, by decide⟩

theorem witness_StepKeepsScratchRanges :
    ∃ s t : State, ScratchInv s ∧ step s = .next t ∧ s.ph ≠ t.ph := by
  refine ⟨blinking, { blinking with
    ph := .dispH .onHold, led := 0b0100#4, trace := [.led 2 true] }, ?_, rfl, by decide⟩
  constructor
  case blk_pos => intro place h _; decide
  all_goals first | decide | (intro _ h; simp [blinking, running] at h)

theorem witness_NoStepStopsTheMachine :
    ∃ s u : State, Inv s ∧ s.cfg.wf = true ∧ u.cfg.wf = false :=
  ⟨awaiting, { State.reset with
      cfg := { Config.default with bind := #v[⟨0, 1⟩, ⟨0, 2⟩, ⟨0, 1⟩, ⟨0, 3⟩] } },
    inv_awaiting, by decide, by decide⟩

theorem witness_PhaseChangesAreTheListedOnes :
    ∃ s t : State, Inv s ∧ step s = .next t ∧ (∀ rest, s.turns ≠ .reset :: rest) ∧
      t.ph.code ≠ s.ph.code :=
  ⟨awaiting, { awaiting with
      ph := .relWait .hit, btn := 0b0010#4, pads := [], fresh := 1, trace := [.btn 0b0010#4] },
    inv_awaiting, rfl, by simp [awaiting, running, State.reset], by decide⟩

theorem witness_PadsAreNeverDrivenAndReadAtOnce_btn :
    ∃ (s t : State) (v : Pads), Inv s ∧ step s = .next t ∧ t.trace = s.trace ++ [.btn v] :=
  ⟨awaiting, { awaiting with
      ph := .relWait .hit, btn := 0b0010#4, pads := [], fresh := 1, trace := [.btn 0b0010#4] },
    0b0010#4, inv_awaiting, rfl, rfl⟩

theorem witness_PadsAreNeverDrivenAndReadAtOnce_led :
    ∃ (s t : State) (c : Channel) (b : Bool),
      Inv s ∧ step s = .next t ∧ t.trace = s.trace ++ [.led c b] :=
  ⟨blinking, { blinking with ph := .dispH .onHold, led := 0b0100#4, trace := [.led 2 true] }, 2, true,
    inv_blinking, rfl, rfl⟩

theorem witness_PadsAreNeverDrivenAndReadAtOnce_ledAll :
    ∃ (s t : State) (v : Pads), Inv s ∧ step s = .next t ∧ t.trace = s.trace ++ [.ledAll v] :=
  ⟨showing, { showing with ph := .showTarget .leave, led := 0b0000#4, trace := [.ledAll 0b0000#4] },
    0b0000#4, inv_showing, rfl, rfl⟩

/-- A narrow raw sample, the boundary width 16, and a wide one. -/
theorem witness_EnvironmentAnswersAsTheSpecReadsThem :
    ∃ (s u : State) (levels : Pads) (raw : Nat) (v : Half),
      s.pads = levels :: [] ∧ s.samples = raw :: [] ∧ s.draws = v :: [] ∧ s.cfg.adcWidth ≤ 16 ∧
      u.samples = raw :: [] ∧ 16 < u.cfg.adcWidth :=
  ⟨{ State.reset with pads := [0b1101#4], samples := [70000], draws := [7#16] },
    { State.reset with samples := [70000], cfg := { Config.default with adcWidth := 17 } },
    0b1101#4, 70000, 7#16, by decide⟩

theorem witness_PadsAreDrivenFromTheLatches :
    ∃ (s u : State) (c : Channel), s.mode = 0b0000 ∧ u.mode = 0b1111 ∧
      u.led.getLsbD c.toNat = true ∧ u.led.getLsbD (3 - c).toNat = false :=
  ⟨State.reset, { State.reset with mode := 0b1111#4, led := 0b1000#4 }, 3, by decide⟩

theorem witness_TickedDelayEqualsDelayInOneStep :
    ∃ (s : State) (i : Instr) (n : Nat), s.cfg.wf = true ∧ s.busy = true ∧
      currentCommand s = some i ∧ s.ph.belongsTo i = true ∧ s.ph.delayAt = some n ∧ s.dly = 0 ∧
      n = 1000 :=
  ⟨running .anims (.animS .pause), .anims, 1000, by decide⟩

/-- The shortest delay, where `k = 1` is both ends of the range of `k`. -/
theorem witness_TickedDelayEqualsDelayInOneStep_core :
    ∃ (s : State) (i : Instr) (n k : Nat), s.cfg.wf = true ∧ s.busy = true ∧
      currentCommand s = some i ∧ s.ph.belongsTo i = true ∧ s.ph.delayAt = some n ∧ s.dly = 0 ∧
      1 ≤ k ∧ k ≤ n ∧ k = n :=
  ⟨running (.round 3) (.await .wait), .round 3, 1, 1, by decide⟩

theorem witness_OnlyTheDelayCounterMovesDuringADelay :
    ∃ (s u : State) (n : Nat) (rest : List Turn),
      s.cfg.wf = true ∧ s.busy = true ∧ s.turns = .tick :: rest ∧ s.ph.delayAt = some n ∧ s.dly = 0 ∧
      u.cfg.wf = true ∧ u.busy = true ∧ u.turns = .tick :: rest ∧ u.ph.delayAt = some n ∧ 1 < u.dly.toNat :=
  ⟨{ running .animf (.animF .onHold) with turns := [.tick] },
    { running .animf (.animF .onHold) with turns := [.tick], dly := 2#10 }, 250, [], by decide⟩

theorem witness_RangeScalingIsTheExactFloor :
    ∃ r x : Half, x ≠ 65535 ∧ 1 ≤ r.toNat ∧ r = 1 ∧ x = 65534 := ⟨1, 65534, by decide⟩

theorem witness_RandomRequestTakesOneSampleAStep :
    ∃ (s u v : State), s.busy = true ∧ s.ph = .sample .seedInit ∧ s.cfg.seedInit = .draw ∧
      u.busy = true ∧ u.ph = .sample .seedInit ∧ u.cfg.seedInit = .zero ∧
      v.busy = true ∧ v.ph = .sample .accumulate ∧ v.scnt.toNat < 25 ∧ v.scnt = 24 :=
  ⟨running .rndch (.sample .seedInit),
    { running .rndch (.sample .seedInit) with cfg := { Config.default with seedInit := .zero } },
    { running .rndch (.sample .accumulate) with scnt := 24#5 }, by decide⟩

theorem witness_RandomCommandsCompleteInMix : ∃ s : State, s.busy = true ∧ s.ph = .mix :=
  ⟨running (.rndrg 0) .mix, by decide⟩

theorem witness_RndchRunsFromAcceptToCompletion : ∃ s : State, s.busy = false ∧ s.done = true :=
  ⟨{ State.reset with done := true }, by decide⟩

theorem witness_RndrgRunsFromAcceptToCompletion :
    ∃ (r : Half) (s : State), s.busy = false ∧ r = 0 := ⟨0, State.reset, by decide⟩

theorem witness_RandomCommandsLeaveTheRestAlone :
    ∃ (i : Instr) (s t u v : State), (i = .rndch ∨ ∃ r, i = .rndrg r) ∧
      exec i s = .next t ∧ s.ph ≠ .mix ∧ s.busy = true ∧
      exec i u = .next v ∧ u.busy = false :=
  ⟨.rndch, { running .rndch (.sample .seedInit) with draws := [7#16] },
    { running .rndch (.sample .accumulate) with
      seed := 7#16, draws := [], fresh := 1, trace := [.draw 7#16] },
    State.reset, accept .rndch State.reset, .inl rfl, rfl, by decide, rfl, rfl, rfl⟩

theorem witness_RoundShowsItsKey :
    (running (.round 3) .mix).busy = true ∧ (running (.round 3) .mix).ph = .mix ∧
    (running (.round 3) (.showTarget .assert)).ph = .showTarget .assert ∧
    (running (.round 3) (.showTarget .hold)).ph = .showTarget .hold ∧
    (running (.round 3) (.showTarget .hold)).dly = 0 ∧
    (running (.round 3) (.showTarget .deassert)).ph = .showTarget .deassert := by decide

theorem witness_AwaitInputLoadsTheCountdown :
    ∃ s : State, s.busy = true ∧ s.ph = .showTarget .leave ∧ s.arg = 65535 :=
  ⟨running (.round 65535) (.showTarget .leave), by decide⟩

theorem witness_PollLoopDecidesTheOutcome_timeout :
    ∃ s : State, s.busy = true ∧ s.ph = .await .test ∧ s.cnt = 0 ∧ s.btn = 0b0000 :=
  ⟨running (.round 0) (.await .test), by decide⟩

theorem witness_PollLoopDecidesTheOutcome_no_press :
    ∃ s : State, s.busy = true ∧ s.ph = .await .test ∧ s.cnt ≠ 0 ∧ pressedNow s = 0b0000 ∧
      s.cnt = 1 :=
  ⟨{ running (.round 1) (.await .test) with cnt := 1#16, pads := [0b1111#4] }, by decide⟩

theorem witness_PollLoopDecidesTheOutcome_hit :
    ∃ s : State, s.busy = true ∧ s.ph = .await .test ∧ s.cnt ≠ 0 ∧ pressedNow s ≠ 0b0000 ∧
      lsbIndex (pressedNow s) = s.key :=
  ⟨awaiting, by decide⟩

theorem witness_PollLoopDecidesTheOutcome_miss :
    ∃ s u : State, s.busy = true ∧ s.ph = .await .test ∧ s.cnt ≠ 0 ∧ pressedNow s ≠ 0b0000 ∧
      lsbIndex (pressedNow s) ≠ s.key ∧ s.cfg.relWaitMiss = false ∧
      u.busy = true ∧ u.ph = .await .test ∧ u.cnt ≠ 0 ∧ pressedNow u ≠ 0b0000 ∧
      lsbIndex (pressedNow u) ≠ u.key ∧ u.cfg.relWaitMiss = true :=
  ⟨{ awaiting with key := 3#2 },
    { awaiting with key := 3#2, cfg := { Config.default with relWaitMiss := true } }, by decide⟩

theorem witness_PollLoopDecidesTheOutcome_wait :
    ∃ s : State, s.busy = true ∧ s.ph = .await .wait ∧ s.dly = 0 ∧ s.cnt = 1 :=
  ⟨{ running (.round 1) (.await .wait) with cnt := 1#16 }, by decide⟩

theorem witness_ReleaseWaitEndsOnlyWhenAllAreUp :
    ∃ (s u : State) (o : RoundOutcome), s.busy = true ∧ s.ph = .relWait o ∧ pressedNow s = 0b0000 ∧
      u.busy = true ∧ u.ph = .relWait o ∧ pressedNow u ≠ 0b0000 :=
  ⟨{ running (.round 1) (.relWait .hit) with pads := [0b1111#4] },
    { running (.round 1) (.relWait .hit) with pads := [0b0111#4] }, .hit, by decide⟩

theorem witness_RoundResolvesAndCompletes :
    ∃ s u : State, s.busy = true ∧ s.ph = .resHit ∧ u.busy = true ∧ u.ph = .resFail :=
  ⟨running (.round 1) .resHit, running (.round 1) .resFail, by decide⟩

/-- An idle core before a round whose samples and draw are all 0, so that the key is 2 (vector E-1), with
the given answers of the pads. -/
def beforeRound (levels : List Pads) : State :=
  { State.reset with samples := List.replicate 25 0, draws := [0#16], pads := levels }

theorem test_key_of_beforeRound (levels : List Pads) :
    channelOf (channelFold (lcg (accumulated (beforeRound levels) 25))) = 2#2 := by
  have h : accumulated (beforeRound levels) 25 = 0#16 := by
    simp [accumulated, sampleAhead, initialSeed, drawNow, beforeRound, State.reset, Config.default,
      sampleOf, List.range_succ]
  rw [h]
  decide

theorem witness_RoundWithoutAPressTimesOut :
    ∃ (b : Half) (s : State), s.busy = false ∧ s.dly = 0 ∧
      (∀ k, k < b.toNat → pressedAhead s k = 0b0000) ∧ b = 2 :=
  ⟨2, beforeRound [0b1111#4, 0b1111#4], by decide⟩

/-- Both ends: a budget of 0, and a press at the last allowed poll. -/
theorem witness_RoundWithoutAPressTimesOut_zero :
    ∃ (b : Half) (s : State), s.busy = false ∧ s.dly = 0 ∧
      (∀ k, k < b.toNat → pressedAhead s k = 0b0000) ∧ b = 0 :=
  ⟨0, State.reset, by decide⟩

theorem witness_RoundWithAWrongPressMisses :
    ∃ (b : Half) (s : State) (k : Nat), s.busy = false ∧ s.dly = 0 ∧ s.cfg.relWaitMiss = false ∧
      k < b.toNat ∧ (∀ j, j < k → pressedAhead s j = 0b0000) ∧ pressedAhead s k ≠ 0b0000 ∧
      lsbIndex (pressedAhead s k) ≠ channelOf (channelFold (lcg (accumulated s 25))) ∧
      k + 1 = b.toNat := by
  refine ⟨2, beforeRound [0b1111#4, 0b1101#4], 1, ?_⟩
  rw [test_key_of_beforeRound]
  decide

theorem witness_RoundWithAPressWaitsForRelease_hit :
    ∃ (b : Half) (s : State) (k m : Nat), s.busy = false ∧ s.dly = 0 ∧
      k < b.toNat ∧ (∀ j, j < k → pressedAhead s j = 0b0000) ∧ pressedAhead s k ≠ 0b0000 ∧
      (lsbIndex (pressedAhead s k) = channelOf (channelFold (lcg (accumulated s 25))) ∨
        s.cfg.relWaitMiss = true) ∧
      (∀ j, j < m → pressedAhead s (k + 1 + j) ≠ 0b0000) ∧
      pressedAhead s (k + 1 + m) = 0b0000 ∧ m = 1 := by
  refine ⟨1, beforeRound [0b1011#4, 0b0011#4, 0b1111#4], 0, 1, ?_⟩
  rw [test_key_of_beforeRound]
  decide

theorem witness_RoundWithAPressWaitsForRelease_miss :
    ∃ (b : Half) (s : State) (k m : Nat), s.busy = false ∧ s.dly = 0 ∧
      k < b.toNat ∧ (∀ j, j < k → pressedAhead s j = 0b0000) ∧ pressedAhead s k ≠ 0b0000 ∧
      (lsbIndex (pressedAhead s k) = channelOf (channelFold (lcg (accumulated s 25))) ∨
        s.cfg.relWaitMiss = true) ∧
      (∀ j, j < m → pressedAhead s (k + 1 + j) ≠ 0b0000) ∧
      pressedAhead s (k + 1 + m) = 0b0000 ∧ m = 0 :=
  ⟨1, { beforeRound [0b1110#4, 0b1111#4] with cfg := { Config.default with relWaitMiss := true } },
    0, 0, rfl, rfl, by decide, by decide, by decide, .inr rfl, by decide, by decide, rfl⟩

theorem witness_ReleaseWaitHangsWhileAButtonIsDown :
    ∃ (s : State) (o : RoundOutcome) (n : Nat), s.busy = true ∧ s.ph = .relWait o ∧
      (∀ k, k < n → pressedAfter 0 s k ≠ 0b0000) ∧ n = 3 :=
  ⟨{ running (.round 5) (.relWait .hit) with pads := [0b1101#4, 0b1101#4, 0b1101#4] }, .hit, 3,
    by decide⟩

theorem witness_RoundLeavesTheRestAlone :
    ∃ (s t u v : State), exec (.round 3) s = .next t ∧ s.ph ≠ .mix ∧ s.ph.code ≠ 3 ∧
      s.ph.code ≠ 4 ∧ s.ph.code ≠ 1 ∧ s.ph.delayAt = none ∧
      exec (.round 3) u = .next v ∧ u.busy = false ∧ u.ph.code ≠ 5 :=
  ⟨running (.round 3) .resHit, complete 1#16 true (running (.round 3) .resHit),
    State.reset, accept (.round 3) State.reset, rfl, by decide, by decide, by decide, by decide,
    by decide, rfl, rfl, by decide⟩

theorem witness_BlinkRunsItsCount :
    ∃ (s u : State), s.busy = true ∧ s.dly = 0 ∧ s.ph = .dispH .test ∧ s.blk = 655 ∧
      u.busy = true ∧ u.dly = 0 ∧ u.ph = .dispU .test ∧ u.blk = 0 :=
  ⟨{ running (.score 65535) (.dispH .test) with blk := 655#10 }, running (.score 0) (.dispU .test),
    by decide⟩

theorem witness_ScoreGoesThroughItsDigitsInOrder :
    (running (.score 305) .dispEnter).busy = true ∧
    (running (.score 305) .dispEnter).ph = .dispEnter ∧
    (running (.score 305) (.dispH .test)).ph = .dispH .test ∧
    (running (.score 305) (.dispT .test)).ph = .dispT .test ∧
    (running (.score 305) (.dispU .test)).ph = .dispU .test ∧
    (running (.score 305) (.dispU .test)).blk = 0 := by decide

theorem witness_ScoreRunsFromAcceptToCompletion :
    ∃ (x : Half) (s : State), s.busy = false ∧ s.dly = 0 ∧ x = 65535 ∧ s.led = 0b1111 :=
  ⟨65535, { State.reset with led := 0b1111#4 }, by decide⟩

theorem witness_ScoreLeavesTheRestAlone :
    ∃ (s t u v : State), exec (.score 305) s = .next t ∧ s.ph ≠ .dispEnter ∧
      s.ph.delayAt = none ∧ exec (.score 305) u = .next v ∧ u.busy = false :=
  ⟨blinking, { blinking with ph := .dispH .onHold, led := 0b0100#4, trace := [.led 2 true] },
    State.reset, accept (.score 305) State.reset, rfl, by decide, by decide, rfl, rfl⟩

theorem witness_StartAnimationRunsFromAcceptToCompletion :
    ∃ s : State, s.busy = false ∧ s.dly = 0 ∧ s.led = 0b0101 :=
  ⟨{ State.reset with led := 0b0101#4 }, by decide⟩

theorem witness_FailAnimationRunsFromAcceptToCompletion :
    ∃ s : State, s.busy = false ∧ s.dly = 0 ∧ s.led = 0b1010 :=
  ⟨{ State.reset with led := 0b1010#4 }, by decide⟩

/-- The first and the last channel of a sweep. -/
theorem witness_SweepWritesOneChannelAStep :
    ∃ s u : State, s.busy = true ∧ s.idx.toNat < 4 ∧ s.ph = .animS .offWrite ∧ s.idx = 0 ∧
      u.busy = true ∧ u.idx.toNat < 4 ∧ u.ph = .animS .onWrite ∧ u.idx = 3 :=
  ⟨running .anims (.animS .offWrite), { running .anims (.animS .onWrite) with idx := 3#3 },
    by decide⟩

theorem witness_StartAnimationStepsThroughItsSweeps :
    ∃ s u v w x y : State,
      s.busy = true ∧ s.ph = .animS .offHold ∧ s.dly = 0 ∧ s.idx.toNat < 4 ∧ s.idx = 3 ∧
      u.ph = .animS .onHold ∧ u.dly = 0 ∧ u.idx.toNat < 3 ∧ u.idx = 2 ∧
      v.ph = .animS .onHold ∧ v.dly = 0 ∧ v.idx = 3 ∧ v.rep = 0 ∧
      w.ph = .animS .onHold ∧ w.dly = 0 ∧ w.idx = 3 ∧ w.rep = 1 ∧
      x.ph = .animS .pause ∧ x.dly = 0 ∧ y.busy = true ∧ y.ph = .animS .finish :=
  ⟨{ running .anims (.animS .offHold) with idx := 3#3 },
    { running .anims (.animS .onHold) with idx := 2#3 },
    { running .anims (.animS .onHold) with idx := 3#3 },
    { running .anims (.animS .onHold) with idx := 3#3, rep := 1#2 },
    running .anims (.animS .pause), running .anims (.animS .finish), by decide⟩

theorem witness_FailAnimationFlashesAllFourAtOnce :
    ∃ s u v w x : State,
      s.busy = true ∧ s.ph = .animF .on ∧ u.ph = .animF .onHold ∧ u.dly = 0 ∧
      v.ph = .animF .off ∧ w.ph = .animF .offHold ∧ w.dly = 0 ∧ w.rep.toNat < 2 ∧ w.rep = 1 ∧
      x.ph = .animF .finish :=
  ⟨running .animf (.animF .on), running .animf (.animF .onHold), running .animf (.animF .off),
    { running .animf (.animF .offHold) with rep := 1#2 }, running .animf (.animF .finish),
    by decide⟩

theorem witness_AnimationsLeaveTheRestAlone :
    ∃ (i : Instr) (s t u v : State), (i = .anims ∨ i = .animf) ∧ exec i s = .next t ∧
      s.ph ≠ .animS .enter ∧ s.ph ≠ .animF .enter ∧ s.ph.delayAt = none ∧
      exec i u = .next v ∧ u.busy = false :=
  ⟨.animf, running .animf (.animF .on),
    { running .animf (.animF .onHold) with led := 0b1111#4, trace := [.ledAll 0b1111#4] },
    State.reset, accept .animf State.reset, .inr rfl, rfl, by decide, by decide, by decide, rfl,
    rfl⟩

theorem witness_MachineRunFollowsTheCommand :
    ∃ (i : Instr) (s t : State) (k : Nat), s.cfg.wf = true ∧ s.turns = [] ∧
      currentCommand s = some i ∧ (∀ j u, j < k → runCommand i j s = .next u → u.busy = true) ∧
      runCommand i k s = .next t ∧ k = 1 := by
  refine ⟨.animf, running .animf (.animF .on), { running .animf (.animF .onHold) with
    led := 0b1111#4, trace := [.ledAll 0b1111#4] }, 1, by decide, rfl, by decide, ?_, rfl, rfl⟩
  intro j u hj h
  have e : j = 0 := by omega
  subst e
  cases h
  rfl

end Sys2Proof.Tests
end

/-! # One step of the machine: its frame, its phases, its invariants (spec/10_state.md) -/

namespace Sys2Proof.Machine

/-! ### The step functions with several outcomes, as one state each -/

theorem accumulateSample_eq (s : State) :
    accumulateSample s = { adcSample s with
      seed := s.seed ^^^ sampleNow s, scnt := s.scnt + 1#5
      ph := if s.scnt + 1#5 = nSamples then .mix else .sample .accumulate } := by
  simp only [accumulateSample]
  split <;> rfl

theorem releaseStep_eq (o : RoundOutcome) (s : State) :
    releaseStep o s = { pinReadAll s with
      btn := pressedNow s
      ph := if pressedNow s = 0b0000#4 then resolvedPhase o else s.ph } := by
  simp only [releaseStep]
  split <;> rfl

theorem offSweepHold_eq (s : State) :
    offSweepHold s = { delay tAnimStep s with
      idx := if s.idx + 1#3 = 4#3 then 0#3 else s.idx + 1#3
      ph := .animS (if s.idx + 1#3 = 4#3 then .onWrite else .offWrite) } := by
  simp only [offSweepHold]
  split <;> rfl

theorem failOffHold_eq (s : State) :
    failOffHold s = { delay tFail s with
      rep := s.rep + 1#2
      ph := .animF (if s.rep + 1#2 = nAnimRep then .finish else .on) } := by
  simp only [failOffHold]
  split <;> rfl

/-- After an on-write (R131): the next channel, the next repetition, or the pause. -/
theorem onSweepHold_cases (s : State) :
    (s.idx + 1#3 ≠ 4#3 ∧ onSweepHold s =
      { delay tAnimStep s with idx := s.idx + 1#3, ph := .animS .onWrite }) ∨
    (s.rep + 1#2 ≠ nAnimRep ∧ onSweepHold s =
      { delay tAnimStep s with idx := 0#3, rep := s.rep + 1#2, ph := .animS .offWrite }) ∨
    (s.rep + 1#2 = nAnimRep ∧ onSweepHold s =
      { delay tAnimStep s with idx := 4#3, rep := s.rep + 1#2, ph := .animS .pause }) := by
  simp only [onSweepHold]
  split
  · rename_i h4
    split
    · rename_i hr
      exact .inr (.inr ⟨hr, by rw [h4]⟩)
    · rename_i hr
      exact .inr (.inl ⟨hr, rfl⟩)
  · rename_i h4
    exact .inl ⟨h4, rfl⟩

/-- What follows the loop of R105: the release wait or the failure. -/
def Phase.AfterAwait (p : Phase) : Prop := p = .resFail ∨ ∃ o, p = .relWait o

theorem leaveAwait_eq (s : State) :
    ∃ p : Phase, p.AfterAwait ∧ leaveAwait s = { s with ph := p } := by
  obtain ⟨h, -⟩ | ⟨h, -⟩ := leaveAwait_cases s
  · exact ⟨_, .inr ⟨_, rfl⟩, h⟩
  · exact ⟨_, .inl rfl, h⟩

theorem poll_eq (s : State) :
    ∃ p : Phase, (pressedNow s = 0b0000#4 ∧ p = .await .wait ∨ p.AfterAwait) ∧
      poll s = { pinReadAll s with btn := pressedNow s, ph := p } := by
  simp only [poll]
  split
  · rename_i h
    exact ⟨_, .inl ⟨h, rfl⟩, rfl⟩
  · obtain ⟨p, hp, h⟩ := leaveAwait_eq { pinReadAll s with btn := pressedNow s }
    exact ⟨p, .inr hp, h⟩

/-! ### What one step of a running command does, said once -/

/-- What `Inv` says of the pads and the countdown of a core that stands at a phase (R177, R24, R105). -/
def Phase.Guarantee (s : State) : Phase → Prop
  | .showTarget _ => s.mode = 0b1111#4
  | .await place => s.mode = 0b0000#4 ∧ s.cnt.toNat ≤ s.arg.toNat ∧ s.btn = 0b0000#4 ∧
      (place = .wait → 0 < s.cnt.toNat)
  | .relWait _ => s.mode = 0b0000#4
  | .resHit => s.mode = 0b0000#4
  | .resFail => s.mode = 0b0000#4
  | .dispH _ => s.mode = 0b1111#4
  | .dispT _ => s.mode = 0b1111#4
  | .dispU _ => s.mode = 0b1111#4
  | .idle => s.mode = 0b0000#4 ∨ s.mode = 0b1111#4
  | .sample _ => s.mode = 0b0000#4 ∨ s.mode = 0b1111#4
  | .mix => s.mode = 0b0000#4 ∨ s.mode = 0b1111#4
  | .dispEnter => s.mode = 0b0000#4 ∨ s.mode = 0b1111#4
  | .animS .enter => s.mode = 0b0000#4 ∨ s.mode = 0b1111#4
  | .animS _ => s.mode = 0b1111#4
  | .animF .enter => s.mode = 0b0000#4 ∨ s.mode = 0b1111#4
  | .animF _ => s.mode = 0b1111#4

/-- R24: what a command with this `ARG` may complete with. -/
def ResultFits (arg r : Half) (h : Bool) : Instr → Prop
  | .rndch => r.toNat ≤ 3 ∧ h = false
  | .rndrg _ => r.toNat ≤ arg.toNat ∧ h = false
  | .round _ => r = (BitVec.ofBool h).setWidth 16
  | .score _ => h = false
  | .anims => h = false
  | .animf => h = false

theorem ResultFits.by_opcode {arg r : Half} {h : Bool} {i : Instr} (hr : ResultFits arg r h i) :
    (h = true → opcodeOf i = 3#4) ∧ (opcodeOf i = 1#4 → r.toNat ≤ 3) ∧
      (opcodeOf i = 2#4 → r.toNat ≤ arg.toNat) ∧
      (opcodeOf i = 3#4 → r = (BitVec.ofBool h).setWidth 16) := by
  cases i
  case rndch => obtain ⟨hle, rfl⟩ := hr; simp [opcodeOf, hle]
  case rndrg => obtain ⟨hle, rfl⟩ := hr; simp [opcodeOf, hle]
  case round => rw [ResultFits] at hr; simp [opcodeOf, hr]
  case score | anims | animf => rw [ResultFits] at hr; simp [opcodeOf, hr]

/-! The fields below default to the proof that fits most steps, so that each lemma about a step function
writes out only the fields that need an argument. -/

/-- What no step of a running command writes: `OP`, `ARG`, `ERR`, and the model's own fields. -/
structure SameCommand (s t : State) : Prop where
  cfg : t.cfg = s.cfg := by rfl
  op : t.op = s.op := by rfl
  arg : t.arg = s.arg := by rfl
  err : t.err = s.err := by rfl
  turns : t.turns = s.turns := by rfl
  reads : t.reads = s.reads := by rfl

/-- From `s` at the phase `p` the command `i` goes on to `t`. -/
structure Advances (i : Instr) (p : Phase) (s t : State) : Prop extends SameCommand s t where
  busy : t.busy = s.busy := by rfl
  done : t.done = s.done := by rfl
  hit : t.hit = s.hit := by rfl
  result : t.result = s.result := by rfl
  belongs : t.ph.belongsTo i = true := by rfl
  edge : t.ph.code = p.code ∨ (p.code, t.ph.code) ∈ phaseEdges := by exact .inl rfl
  /-- a step at a `Delay` leaves none in progress, any other leaves `DLY` alone (R46) -/
  dly : t.dly = 0#10 ∨ p.delayAt = none ∧ t.dly = s.dly := by exact .inr ⟨rfl, rfl⟩
  guarantee : p.Guarantee s → t.ph.Guarantee t := by exact id

/-- From `s` at the phase `p` the command `i` completes (R67), in `t`. -/
structure Completes (i : Instr) (p : Phase) (s t : State) : Prop extends SameCommand s t where
  busy : t.busy = false := by rfl
  done : t.done = true := by rfl
  idle : t.ph = .idle := by rfl
  fits : ResultFits s.arg t.result t.hit i := by rfl
  edge : (p.code, 0#4) ∈ phaseEdges := by simp [Phase.code, phaseEdges]
  noDelay : p.delayAt = none := by rfl
  dly : t.dly = s.dly := by rfl
  mode : t.mode = s.mode := by rfl

section
variable {i : Instr} {s : State}

/-- R81, R82: the commands that draw a random number pass through `SAMPLE` to `MIX`. -/
theorem sample_mix_belongsTo (a : SampleAt)
    (hi : i = .rndch ∨ (∃ r, i = .rndrg r) ∨ ∃ b, i = .round b) :
    (Phase.sample a).belongsTo i = true ∧ Phase.mix.belongsTo i = true := by
  obtain rfl | ⟨r, rfl⟩ | ⟨b, rfl⟩ := hi <;> exact ⟨rfl, rfl⟩

theorem accumulateSample_advances (a : SampleAt)
    (hi : i = .rndch ∨ (∃ r, i = .rndrg r) ∨ ∃ b, i = .round b) :
    Advances i (.sample a) s (accumulateSample s) := by
  obtain ⟨hsample, hmix⟩ := sample_mix_belongsTo .accumulate hi
  rw [accumulateSample_eq]
  split
  · exact { belongs := hmix, edge := by simp [Phase.code, phaseEdges] }
  · exact { belongs := hsample }

theorem sampleStep_advances (a : SampleAt)
    (hi : i = .rndch ∨ (∃ r, i = .rndrg r) ∨ ∃ b, i = .round b) :
    Advances i (.sample a) s (sampleStep a s) := by
  obtain ⟨hsample, hmix⟩ := sample_mix_belongsTo .accumulate hi
  unfold sampleStep
  split
  · split
    · exact { belongs := hsample }
    · exact { accumulateSample_advances (s := { s with seed := 0#16, scnt := 0#5 }) _ hi with }
  · split
    · exact { belongs := hmix, edge := by simp [Phase.code, phaseEdges] }
    · exact accumulateSample_advances _ hi

theorem showStep_advances (b : Half) (a : ShowAt) :
    Advances (.round b) (.showTarget a) s (showStep a s) := by
  cases a
  case assert => exact {}
  case hold => exact { dly := .inl rfl }
  case deassert => exact {}
  case leave =>
    exact { edge := by simp [showStep, enterAwait, Phase.code, phaseEdges]
            guarantee := fun _ => ⟨rfl, le_rfl, rfl, by simp⟩ }

theorem Phase.AfterAwait.guarantee {p : Phase} {t : State} (hp : p.AfterAwait)
    (hmode : t.mode = 0b0000#4) : p.Guarantee t := by
  obtain rfl | ⟨o, rfl⟩ := hp <;> exact hmode

theorem afterAwait_advances (b : Half) {p : Phase} (hp : p.AfterAwait) :
    Advances (.round b) (.await .test) s { s with ph := p } := by
  have hmode (h : (Phase.await .test).Guarantee s) : p.Guarantee { s with ph := p } :=
    hp.guarantee h.1
  obtain rfl | ⟨o, rfl⟩ := hp <;>
    exact { edge := by simp [Phase.code, phaseEdges], guarantee := hmode }

theorem poll_advances (b : Half) (hcnt : s.cnt ≠ 0#16) :
    Advances (.round b) (.await .test) s (poll s) := by
  obtain ⟨p, ⟨hbtn, rfl⟩ | hp, h⟩ := poll_eq s <;> rw [h]
  · have hpos : 0 < s.cnt.toNat := by bv_omega
    exact { guarantee := fun ⟨hmode, hle, _⟩ => ⟨hmode, hle, hbtn, fun _ => hpos⟩ }
  · exact { afterAwait_advances (s := { pinReadAll s with btn := pressedNow s }) b hp with
            guarantee := fun ⟨hmode, _⟩ => hp.guarantee hmode }

/-- R105: the countdown goes down by one only where a poll allowed by `CNT != 0` came before. -/
theorem awaitStep_advances (b : Half) (a : AwaitAt) :
    Advances (.round b) (.await a) s (awaitStep a s) := by
  cases a
  case wait =>
    refine { dly := .inl rfl, guarantee := fun ⟨hmode, hle, hbtn, hpos⟩ => ?_ }
    have hcnt : (s.cnt - 1#16).toNat ≤ s.arg.toNat := by
      have := hpos rfl
      bv_omega
    exact ⟨hmode, hcnt, hbtn, by simp⟩
  case test =>
    simp only [awaitStep]
    split
    · obtain ⟨p, hp, h⟩ := leaveAwait_eq s
      rw [h]
      exact afterAwait_advances b hp
    · exact poll_advances b ‹_›

theorem releaseStep_advances (b : Half) (o : RoundOutcome) (hp : s.ph = .relWait o) :
    Advances (.round b) (.relWait o) s (releaseStep o s) := by
  rw [releaseStep_eq, hp]
  split
  · cases o <;> exact { edge := by simp [resolvedPhase, Phase.code, phaseEdges] }
  · exact {}

/-- The blinks of a digit (R123) stay in its phase; where none remains, `leave` follows. -/
theorem blinkStep_leaves_or_advances (x : Half) (c : Channel) {here : BlinkAt → Phase}
    (hhere : here = .dispH ∨ here = .dispT ∨ here = .dispU) (leave : State → State) (a : BlinkAt) :
    (a = .test ∧ blinkStep c here leave a s = leave s) ∨
      Advances (.score x) (here a) s (blinkStep c here leave a s) := by
  cases a
  case test =>
    by_cases hblk : s.blk = 0#10
    · exact .inl ⟨rfl, if_pos hblk⟩
    · simp only [blinkStep, if_neg hblk]
      obtain rfl | rfl | rfl := hhere <;> exact .inr {}
  case onHold => obtain rfl | rfl | rfl := hhere <;> exact .inr { dly := .inl rfl }
  case off => obtain rfl | rfl | rfl := hhere <;> exact .inr {}
  case offHold => obtain rfl | rfl | rfl := hhere <;> exact .inr { dly := .inl rfl }

theorem startAnimStep_advances (a : StartAnimAt) (ha : a ≠ .finish) :
    Advances .anims (.animS a) s (startAnimStep a s) := by
  cases a
  case enter => exact { guarantee := fun _ => rfl }
  case offWrite => exact {}
  case offHold =>
    simp only [startAnimStep, offSweepHold_eq]
    split <;> exact { dly := .inl rfl }
  case onWrite => exact {}
  case onHold =>
    obtain ⟨-, h⟩ | ⟨-, h⟩ | ⟨-, h⟩ := onSweepHold_cases s <;>
      simp only [startAnimStep, h] <;> exact { dly := .inl rfl }
  case pause => exact { dly := .inl rfl }
  case finish => contradiction

theorem failAnimStep_advances (a : FailAnimAt) (ha : a ≠ .finish) :
    Advances .animf (.animF a) s (failAnimStep a s) := by
  cases a
  case enter => exact { guarantee := fun _ => rfl }
  case on => exact {}
  case onHold => exact { dly := .inl rfl }
  case off => exact {}
  case offHold =>
    simp only [failAnimStep, failOffHold_eq]
    split <;> exact { dly := .inl rfl }
  case finish => contradiction

theorem channelOf_setWidth_le (x : Half) : ((channelOf x).setWidth 16).toNat ≤ 3 := by
  have := (channelOf x).isLt
  simp only [BitVec.toNat_setWidth]
  omega

theorem scale_le (r x : Half) : (scale r x).toNat ≤ r.toNat := by
  have hx := x.isLt
  have hprod : r.toNat * x.toNat ≤ r.toNat * scaleDiv :=
    Nat.mul_le_mul_left _ (by simp only [scaleDiv]; omega)
  have hdiv : r.toNat * x.toNat / scaleDiv ≤ r.toNat :=
    Nat.div_le_of_le_mul (by rwa [Nat.mul_comm scaleDiv])
  rwa [scale, BitVec.toNat_ofNat, Nat.mod_eq_of_lt (scaled_product_lt r x)]

/-- R83, R84: `MIX` writes `SEED` and `TMP` and nothing else, whatever the values. -/
theorem mixChannel_eq (s : State) : ∃ x y, mixChannel s = { s with seed := x, tmp := y } :=
  ⟨_, _, rfl⟩

theorem mixRange_eq (s : State) : ∃ x y, mixRange s = { s with seed := x, tmp := y } :=
  ⟨_, _, rfl⟩

/-- One step of the running command `i` goes on with it, or completes it. -/
theorem Primitive.advances_or_completes {t : State} (h : Primitive s i t) :
    Advances i s.ph s t ∨ Completes i s.ph s t := by
  cases h with
  | sample i a hi hp => rw [hp]; exact .inl (sampleStep_advances a hi)
  | finishChannel hp =>
    obtain ⟨x, y, h⟩ := mixChannel_eq s
    rw [hp, h]
    exact .inr { fits := ⟨channelOf_setWidth_le y, rfl⟩ }
  | finishRange r hp =>
    obtain ⟨x, y, h⟩ := mixRange_eq s
    rw [hp, h]
    exact .inr { fits := ⟨scale_le s.arg y, rfl⟩ }
  | enterShow b hp =>
    obtain ⟨x, y, h⟩ := mixChannel_eq s
    rw [hp, h]
    exact .inl { edge := .inr (show (2#4, 3#4) ∈ phaseEdges by decide)
                 guarantee := fun _ => rfl }
  | showTarget b a hp => rw [hp]; exact .inl (showStep_advances b a)
  | await b a hp => rw [hp]; exact .inl (awaitStep_advances b a)
  | relWait b o hp => rw [hp]; exact .inl (releaseStep_advances b o hp)
  | resHit b hp => rw [hp]; exact .inr {}
  | resFail b hp => rw [hp]; exact .inr {}
  | dispEnter x hp => rw [hp]; exact .inl { guarantee := fun _ => rfl }
  | dispH x a hp =>
    rw [hp]
    obtain ⟨rfl, h⟩ | h := blinkStep_leaves_or_advances x hundredsChannel (.inl rfl) toTens a
    · rw [h]
      exact .inl { edge := by simp [toTens, Phase.code, phaseEdges] }
    · exact .inl h
  | dispT x a hp =>
    rw [hp]
    obtain ⟨rfl, h⟩ | h := blinkStep_leaves_or_advances x tensChannel (.inr (.inl rfl)) toUnits a
    · rw [h]
      exact .inl { edge := by simp [toUnits, Phase.code, phaseEdges] }
    · exact .inl h
  | dispU x a hp =>
    rw [hp]
    obtain ⟨rfl, h⟩ | h := blinkStep_leaves_or_advances x unitsChannel (.inr (.inr rfl))
      (complete 0#16 false) a
    · rw [h]
      exact .inr {}
    · exact .inl h
  | animS a hp =>
    rw [hp]
    by_cases ha : a = .finish
    · subst ha
      exact .inr {}
    · exact .inl (startAnimStep_advances a ha)
  | animF a hp =>
    rw [hp]
    by_cases ha : a = .finish
    · subst ha
      exact .inr {}
    · exact .inl (failAnimStep_advances a ha)

/-- One step of `exec` on a running command. -/
theorem exec_advances_or_completes {t : State} (hb : s.busy = true) (h : exec i s = .next t) :
    Advances i s.ph s t ∨ Completes i s.ph s t := by
  obtain ⟨hidle, -⟩ | ⟨-, hprim⟩ := exec_next h
  · simp [hb] at hidle
  · exact hprim.advances_or_completes

/-- The same of a step whose schedule has moved on, as `TurnEffect.run` has it. -/
theorem exec_setTurns_advances_or_completes {t : State} {rest : List Turn} (hb : s.busy = true)
    (h : exec i (setTurns rest s) = .next t) :
    Advances i s.ph (setTurns rest s) t ∨ Completes i s.ph (setTurns rest s) t :=
  exec_advances_or_completes (s := setTurns rest s) hb h

/-- Every step of `exec`, the accept included, leaves `ERR` and the model's own fields alone. -/
theorem exec_frame {t : State} (h : exec i s = .next t) :
    t.err = s.err ∧ t.cfg = s.cfg ∧ t.turns = s.turns ∧ t.reads = s.reads := by
  obtain ⟨-, rfl⟩ | ⟨-, hprim⟩ := exec_next h
  · exact ⟨rfl, rfl, rfl, rfl⟩
  · obtain h | h := hprim.advances_or_completes <;> exact ⟨h.err, h.cfg, h.turns, h.reads⟩

/-- A running command keeps its `OP` and `ARG`, and so stays the command in progress. -/
theorem exec_keeps_op_arg {t : State} (hb : s.busy = true) (h : exec i s = .next t) :
    t.op = s.op ∧ t.arg = s.arg := by
  obtain h | h := exec_advances_or_completes hb h <;> exact ⟨h.op, h.arg⟩

end

/-! ### The invariant of the reachable states -/

theorem decode_composeWord (i : Instr) :
    decode (composeWord (opcodeOf i) 0#12 (operandOf i)) = .command i := by
  cases i <;>
    simp [decode, withoutOperand, opcodeOf, operandOf, opField_compose, zeroField_compose,
      argField_compose]

theorem currentCommand_accept (i : Instr) (s : State) : currentCommand (accept i s) = some i := by
  simp only [currentCommand, accept, decode_composeWord, Decoded.instr]

theorem belongsTo_firstPhase (i : Instr) : (firstPhase i).belongsTo i = true := by
  cases i <;> rfl

theorem ne_idle_of_belongsTo {i : Instr} {p : Phase} (h : p.belongsTo i = true) : p ≠ .idle := by
  rintro rfl
  cases i <;> cases h

namespace Phase.Guarantee
variable {s : State} {p : Phase}

theorem mode_uniform (h : p.Guarantee s) : s.mode = 0b0000#4 ∨ s.mode = 0b1111#4 := by
  cases p
  case idle | sample | mix | dispEnter => exact h
  case showTarget | dispH | dispT | dispU => exact .inr h
  case await => exact .inl h.1
  case relWait | resHit | resFail => exact .inl h
  case animS place =>
    cases place
    case enter => exact h
    all_goals exact .inr h
  case animF place =>
    cases place
    case enter => exact h
    all_goals exact .inr h

theorem mode_of_drives (h : p.Guarantee s) (hp : p.drives = true) : s.mode = 0b1111#4 := by
  cases p
  case showTarget | dispH | dispT | dispU => exact h
  case animS place =>
    cases place
    case enter => cases hp
    all_goals exact h
  case animF place =>
    cases place
    case enter => cases hp
    all_goals exact h
  all_goals cases hp

theorem mode_of_reads (h : p.Guarantee s) (hp : p.reads = true) : s.mode = 0b0000#4 := by
  cases p
  case await => exact h.1
  case relWait | resHit | resFail => exact h
  all_goals cases hp

end Phase.Guarantee

namespace Inv
variable {i : Instr} {s t : State}

theorem guarantee (hs : Inv s) : s.ph.Guarantee s := by
  have await (place : AwaitAt) (hp : s.ph = .await place) : (Phase.await place).Guarantee s :=
    ⟨hs.reading (by rw [hp]; rfl), hs.countdown place hp, hs.unpressed place hp,
      fun h => hs.waiting (by rw [hp, h])⟩
  have driving := hs.driving
  have reading := hs.reading
  cases hp : s.ph
  case await place => exact await place hp
  all_goals rw [hp] at driving reading
  case idle | sample | mix | dispEnter => exact hs.mode_uniform
  case showTarget | dispH | dispT | dispU => exact driving rfl
  case relWait | resHit | resFail => exact reading rfl
  case animS place =>
    cases place
    case enter => exact hs.mode_uniform
    all_goals exact driving rfl
  case animF place =>
    cases place
    case enter => exact hs.mode_uniform
    all_goals exact driving rfl

theorem idle_of_not_busy (hs : Inv s) (hb : s.busy = false) : s.ph = .idle := by
  by_contra h
  simp [hs.busy_iff.mpr h] at hb

/-- Off a `Delay` none is in progress. -/
theorem dly_eq_zero (hs : Inv s) (h : s.ph.delayAt = none) : s.dly = 0#10 := by
  by_contra hd
  obtain ⟨n, hn, -⟩ := hs.delaying hd
  simp [h] at hn

theorem done_eq_false (hs : Inv s) (hb : s.busy = true) : s.done = false := by
  by_contra hd
  have := hs.done_idle (by simpa using hd)
  simp [hb] at this

theorem hit_eq_false (hs : Inv s) (hb : s.busy = true) : s.hit = false := by
  by_contra hh
  obtain ⟨hdone, -⟩ := hs.hit_round (by simpa using hh)
  simp [hs.done_eq_false hb] at hdone

/-- A running core meets the invariant if its command is in one of its phases and that phase's guarantee
holds. -/
theorem of_running (hb : t.busy = true) (hd : t.done = false) (hh : t.hit = false)
    (hc : currentCommand t = some i) (hi : t.ph.belongsTo i = true) (hg : t.ph.Guarantee t)
    (hdly : t.dly = 0#10) : Inv t where
  mode_uniform := hg.mode_uniform
  busy_iff := iff_of_true hb (ne_idle_of_belongsTo hi)
  done_idle h := by simp [hd] at h
  hit_round h := by simp [hh] at h
  running _ := ⟨i, hc, hi⟩
  countdown _ hp := by rw [hp] at hg; exact hg.2.1
  waiting hp := by rw [hp] at hg; exact hg.2.2.2 rfl
  unpressed _ hp := by rw [hp] at hg; exact hg.2.2.1
  result_channel h := by simp [hd] at h
  result_range h := by simp [hd] at h
  result_round h := by simp [hd] at h
  driving := hg.mode_of_drives
  reading := hg.mode_of_reads
  delaying h := absurd hdly h

theorem advance (hs : Inv s) (hb : s.busy = true) (hc : currentCommand s = some i)
    (h : Advances i s.ph s t) : Inv t := by
  have hdly : t.dly = 0#10 := by
    obtain h0 | ⟨hp, h0⟩ := h.dly
    · exact h0
    · exact h0.trans (hs.dly_eq_zero hp)
  exact of_running (h.busy.trans hb) (h.done.trans (hs.done_eq_false hb))
    (h.hit.trans (hs.hit_eq_false hb)) ((currentCommand_congr h.op h.arg).trans hc) h.belongs
    (h.guarantee hs.guarantee) hdly

/-- An idle core meets the invariant if its pads are uniform, no delay is in progress and the last result
is in the range of its command. -/
theorem of_idle (hb : t.busy = false) (hp : t.ph = .idle) (hdly : t.dly = 0#10)
    (hmode : t.mode = 0b0000#4 ∨ t.mode = 0b1111#4)
    (hhit : t.hit = true → t.done = true ∧ t.op = 3#4)
    (hchannel : t.done = true → t.op = 1#4 → t.result.toNat ≤ 3)
    (hrange : t.done = true → t.op = 2#4 → t.result.toNat ≤ t.arg.toNat)
    (hround : t.done = true → t.op = 3#4 → t.result = (BitVec.ofBool t.hit).setWidth 16) :
    Inv t where
  mode_uniform := hmode
  busy_iff := by simp [hb, hp]
  done_idle _ := hb
  hit_round := hhit
  running h := by simp [hb] at h
  countdown _ h := by simp [hp] at h
  waiting h := by simp [hp] at h
  unpressed _ h := by simp [hp] at h
  result_channel := hchannel
  result_range := hrange
  result_round := hround
  driving h := by simp [hp, Phase.drives] at h
  reading h := by simp [hp, Phase.reads] at h
  delaying h := absurd hdly h

theorem complete (hs : Inv s) (hc : currentCommand s = some i) (h : Completes i s.ph s t) :
    Inv t := by
  have hop : t.op = opcodeOf i := h.op.trans (op_arg_of_currentCommand hc).1
  obtain ⟨hhit, hchannel, hrange, hround⟩ := h.fits.by_opcode
  refine of_idle h.busy h.idle (h.dly.trans (hs.dly_eq_zero h.noDelay)) ?_ ?_ ?_ ?_ ?_
  · rw [h.mode]
    exact hs.mode_uniform
  · exact fun h1 => ⟨h.done, hop.trans (hhit h1)⟩
  · exact fun _ h1 => hchannel (hop.symm.trans h1)
  · exact fun _ h1 => h.arg ▸ hrange (hop.symm.trans h1)
  · exact fun _ h1 => hround (hop.symm.trans h1)

theorem accept (hs : Inv s) (hb : s.busy = false) (i : Instr) : Inv (accept i s) := by
  have hp := hs.idle_of_not_busy hb
  refine of_running rfl rfl rfl (currentCommand_accept i s) (belongsTo_firstPhase i) ?_
    (hs.dly_eq_zero (by rw [hp]; rfl))
  cases i <;> exact hs.mode_uniform

theorem setTurns (hs : Inv s) (rest : List Turn) : Inv (setTurns rest s) := { hs with }

theorem raiseIllegalCommand (hs : Inv s) : Inv (raiseIllegalCommand s) := { hs with }

theorem hostRead (hs : Inv s) (x : RegIndex) : Inv (hostRead x s) := { hs with }

theorem beginDelay (hs : Inv s) {n : Nat} (h : s.ph.delayAt = some n) : Inv (beginDelay n s) :=
  { hs with delaying := fun _ => ⟨n, h, Nat.mod_le _ _⟩ }

theorem countPeriod (hs : Inv s) (hd : s.dly ≠ 0#10) : Inv (countPeriod s) :=
  { hs with
    delaying := fun _ => by
      obtain ⟨n, hn, hle⟩ := hs.delaying hd
      refine ⟨n, hn, ?_⟩
      rw [countPeriod_dly]
      bv_omega }

theorem reset : Inv State.reset :=
  of_idle rfl rfl rfl (.inl rfl) (by simp [State.reset]) (by simp [State.reset])
    (by simp [State.reset]) (by simp [State.reset])

theorem resetMachine (s : State) : Inv (resetMachine s) := { reset with }

end Inv

/-- Settles O16: a running command advances or completes, and every other turn leaves what the
invariant is about alone, or begins a command, or counts a delay down. -/
theorem stepKeepsReachableStateInvariant : Obligations.StepKeepsReachableStateInvariant := by
  intro s t hs h
  obtain ⟨rest, -, rfl⟩ | e := step_next h
  · exact Inv.resetMachine _
  have hs' := hs.setTurns s.turns.tail
  cases e with
  | same => exact hs'
  | beginDelay n _ hp _ => exact hs'.beginDelay hp
  | countPeriod n _ _ hd _ => exact hs'.countPeriod hd
  | run i _ hb hc hexec =>
    obtain h | h := exec_setTurns_advances_or_completes hb hexec
    · exact hs'.advance hb hc h
    · exact hs'.complete hc h
  | accept i w hb => exact hs'.accept hb i
  | illegal => exact hs'.raiseIllegalCommand
  | read x => exact hs'.hostRead x

end Sys2Proof.Machine

namespace Sys2Proof.Machine

/-! ### The ranges of the scratch registers -/

/-- The ranges of R11 alone, whatever the phase. -/
structure ScratchRanges (s : State) : Prop where
  scnt_le : s.scnt.toNat ≤ 25
  digH_le : s.digH.toNat ≤ 655
  digT_le : s.digT.toNat ≤ 9
  digU_le : s.digU.toNat ≤ 9
  blk_le : s.blk.toNat ≤ 655
  rep_le : s.rep.toNat ≤ 2
  idx_le : s.idx.toNat ≤ 4

/-- What `ScratchInv` adds to the ranges for a core that stands at a phase. -/
def Phase.ScratchBound (s : State) : Phase → Prop
  | .sample .accumulate => s.scnt.toNat < 25
  | .dispH place => place ≠ .test → 0 < s.blk.toNat
  | .dispT place => place ≠ .test → 0 < s.blk.toNat
  | .dispU place => place ≠ .test → 0 < s.blk.toNat
  | .animS place =>
      place ≠ .enter ∧ place ≠ .pause ∧ place ≠ .finish → s.rep.toNat < 2 ∧ s.idx.toNat < 4
  | .animF place => place ≠ .enter ∧ place ≠ .finish → s.rep.toNat < 2
  | _ => True

/-- The scratch registers of a core that stands at the phase `p`. -/
structure ScratchAt (p : Phase) (s : State) : Prop extends ScratchRanges s where
  bound : p.ScratchBound s

theorem ScratchInv.scratchAt {s : State} (h : ScratchInv s) : ScratchAt s.ph s where
  scnt_le := h.scnt_le
  digH_le := h.digH_le
  digT_le := h.digT_le
  digU_le := h.digU_le
  blk_le := h.blk_le
  rep_le := h.rep_le
  idx_le := h.idx_le
  bound := by
    cases hp : s.ph
    case sample place =>
      cases place
      case accumulate => exact h.scnt_lt hp
      case seedInit => trivial
    case dispH place => exact fun hne => h.blk_pos place hne (.inl hp)
    case dispT place => exact fun hne => h.blk_pos place hne (.inr (.inl hp))
    case dispU place => exact fun hne => h.blk_pos place hne (.inr (.inr hp))
    case animS place => exact fun hne => ⟨h.rep_lt_start place hp hne, h.idx_lt place hp hne⟩
    case animF place => exact h.rep_lt_fail place hp
    all_goals trivial

theorem ScratchAt.scratchInv {s : State} (h : ScratchAt s.ph s) : ScratchInv s where
  scnt_le := h.scnt_le
  scnt_lt hp := by have := h.bound; rwa [hp] at this
  digH_le := h.digH_le
  digT_le := h.digT_le
  digU_le := h.digU_le
  blk_le := h.blk_le
  blk_pos place hne hp := by
    have := h.bound
    obtain hp | hp | hp := hp <;> rw [hp] at this <;> exact this hne
  rep_le := h.rep_le
  rep_lt_start place hp hne := by have := h.bound; rw [hp] at this; exact (this hne).1
  rep_lt_fail place hp hne := by have := h.bound; rw [hp] at this; exact this hne
  idx_le := h.idx_le
  idx_lt place hp hne := by have := h.bound; rw [hp] at this; exact (this hne).2

/-! The digits of a score (R121). -/

theorem hundredsOf_le (x : Half) : (hundredsOf x).toNat ≤ 655 := by
  have := x.isLt
  simp only [hundredsOf, BitVec.toNat_ofNat]
  omega

theorem tensOf_le (x : Half) : (tensOf x).toNat ≤ 9 := by
  simp only [tensOf, BitVec.toNat_ofNat]
  omega

theorem unitsOf_le (x : Half) : (unitsOf x).toNat ≤ 9 := by
  simp only [unitsOf, BitVec.toNat_ofNat]
  omega

namespace ScratchAt
variable {s : State}

theorem accumulateSample {p : Phase} (h : ScratchAt p s) (hlt : s.scnt.toNat < 25) :
    ScratchAt (accumulateSample s).ph (accumulateSample s) := by
  have hscnt : (s.scnt + 1#5).toNat = s.scnt.toNat + 1 := by bv_omega
  rw [accumulateSample_eq]
  split
  · exact { h with scnt_le := by simp only [hscnt]; omega, bound := trivial }
  · rename_i hne
    have hlt' : (s.scnt + 1#5).toNat < 25 := by
      simp only [nSamples] at hne
      bv_omega
    exact { h with scnt_le := hlt'.le, bound := hlt' }

theorem sampleStep {a : SampleAt} (h : ScratchAt (.sample a) s) :
    ScratchAt (sampleStep a s).ph (sampleStep a s) := by
  unfold Machine.sampleStep
  split
  · split
    · exact { h with scnt_le := Nat.zero_le _, bound := show 0 < 25 by decide }
    · exact accumulateSample (p := .idle) (s := { s with seed := 0#16, scnt := 0#5 })
        { h with scnt_le := Nat.zero_le _, bound := trivial } (show 0 < 25 by decide)
  · split
    · exact { h with bound := trivial }
    · exact accumulateSample h h.bound

theorem showStep {p : Phase} (h : ScratchAt p s) (a : ShowAt) :
    ScratchAt (showStep a s).ph (showStep a s) := by
  cases a <;> exact { h with bound := trivial }

theorem afterAwait {p q : Phase} (h : ScratchAt p s) (hq : q.AfterAwait) :
    ScratchAt q { s with ph := q } := by
  obtain rfl | ⟨o, rfl⟩ := hq <;> exact { h with bound := trivial }

theorem awaitStep {p : Phase} (h : ScratchAt p s) (a : AwaitAt) :
    ScratchAt (awaitStep a s).ph (awaitStep a s) := by
  cases a
  case wait => exact { h with bound := trivial }
  case test =>
    simp only [Machine.awaitStep]
    split
    · obtain ⟨q, hq, e⟩ := leaveAwait_eq s
      rw [e]
      exact h.afterAwait hq
    · obtain ⟨q, ⟨-, rfl⟩ | hq, e⟩ := poll_eq s <;> rw [e]
      · exact { h with bound := trivial }
      · exact { h.afterAwait hq with }

theorem releaseStep {p : Phase} (h : ScratchAt p s) {o : RoundOutcome} (hp : s.ph = .relWait o) :
    ScratchAt (releaseStep o s).ph (releaseStep o s) := by
  rw [releaseStep_eq, hp]
  split
  · cases o <;> exact { h with bound := trivial }
  · exact { h with bound := trivial }

theorem enterDisplay {p : Phase} (h : ScratchAt p s) :
    ScratchAt (enterDisplay s).ph (enterDisplay s) :=
  { h with
    digH_le := hundredsOf_le _, digT_le := tensOf_le _, digU_le := unitsOf_le _
    blk_le := hundredsOf_le _, bound := fun hne => absurd rfl hne }

/-- What a digit phase says of `BLK` at each place of the blink. -/
theorem blk_pos {a : BlinkAt} {here : BlinkAt → Phase}
    (hhere : here = .dispH ∨ here = .dispT ∨ here = .dispU) (h : ScratchAt (here a) s)
    (ha : a ≠ .test) : 0 < s.blk.toNat := by
  obtain rfl | rfl | rfl := hhere <;> exact h.bound ha

theorem bound_of_blk {a : BlinkAt} {here : BlinkAt → Phase} {t : State}
    (hhere : here = .dispH ∨ here = .dispT ∨ here = .dispU)
    (h : a ≠ .test → 0 < t.blk.toNat) : (here a).ScratchBound t := by
  obtain rfl | rfl | rfl := hhere <;> exact h

/-- The blinks of a digit (R123): `BLK` counts down from a value that is not 0. -/
theorem blinkStep {a : BlinkAt} (c : Channel) {here : BlinkAt → Phase}
    (hhere : here = .dispH ∨ here = .dispT ∨ here = .dispU) (leave : State → State)
    (h : ScratchAt (here a) s) (hleave : ScratchAt (leave s).ph (leave s)) :
    ScratchAt (blinkStep c here leave a s).ph (blinkStep c here leave a s) := by
  have hpos := blk_pos hhere h
  cases a
  case test =>
    simp only [Machine.blinkStep]
    split
    · exact hleave
    · rename_i hblk
      have hpos : 0 < s.blk.toNat := by bv_omega
      exact { h with bound := bound_of_blk hhere fun _ => hpos }
  case onHold => exact { h with bound := bound_of_blk hhere fun _ => hpos (by simp) }
  case off => exact { h with bound := bound_of_blk hhere fun _ => hpos (by simp) }
  case offHold =>
    have hle : (s.blk - 1#10).toNat ≤ 655 := by
      have := hpos (by simp)
      have := h.blk_le
      bv_omega
    exact { h with blk_le := hle, bound := bound_of_blk hhere fun hne => absurd rfl hne }

theorem toTens {p : Phase} (h : ScratchAt p s) : ScratchAt (toTens s).ph (toTens s) :=
  { h with
    blk_le := by
      have := h.digT_le
      simp only [Machine.toTens, BitVec.toNat_setWidth]
      omega
    bound := fun hne => absurd rfl hne }

theorem toUnits {p : Phase} (h : ScratchAt p s) : ScratchAt (toUnits s).ph (toUnits s) :=
  { h with
    blk_le := by
      have := h.digU_le
      simp only [Machine.toUnits, BitVec.toNat_setWidth]
      omega
    bound := fun hne => absurd rfl hne }

/-- The sweeps of R131: below 4 the index goes up by one, below 2 the repetitions do. -/
theorem startAnimStep {a : StartAnimAt} (h : ScratchAt (.animS a) s) :
    ScratchAt (startAnimStep a s).ph (startAnimStep a s) := by
  have hbound : a ≠ .enter ∧ a ≠ .pause ∧ a ≠ .finish → s.rep.toNat < 2 ∧ s.idx.toNat < 4 :=
    h.bound
  cases a
  case enter =>
    exact { h with
            rep_le := Nat.zero_le _, idx_le := Nat.zero_le _
            bound := fun _ => show 0 < 2 ∧ 0 < 4 by decide }
  case offWrite | onWrite => exact { h with bound := fun _ => hbound (by simp) }
  case offHold =>
    obtain ⟨hrep, hidx⟩ := hbound (by simp)
    simp only [Machine.startAnimStep, offSweepHold_eq]
    split
    · exact { h with idx_le := Nat.zero_le _, bound := fun _ => ⟨hrep, show 0 < 4 by decide⟩ }
    · have hlt : (s.idx + 1#3).toNat < 4 := by bv_omega
      exact { h with idx_le := hlt.le, bound := fun _ => ⟨hrep, hlt⟩ }
  case onHold =>
    obtain ⟨hrep, hidx⟩ := hbound (by simp)
    have hrep' : (s.rep + 1#2).toNat ≤ 2 := by bv_omega
    obtain ⟨hne, e⟩ | ⟨hne, e⟩ | ⟨-, e⟩ := onSweepHold_cases s <;>
      simp only [Machine.startAnimStep, e]
    · have hlt : (s.idx + 1#3).toNat < 4 := by bv_omega
      exact { h with idx_le := hlt.le, bound := fun _ => ⟨hrep, hlt⟩ }
    · have hlt : (s.rep + 1#2).toNat < 2 := by
        simp only [nAnimRep] at hne
        bv_omega
      exact { h with
              rep_le := hrep', idx_le := Nat.zero_le _
              bound := fun _ => ⟨hlt, show 0 < 4 by decide⟩ }
    · exact { h with rep_le := hrep', idx_le := le_rfl, bound := fun hne => absurd rfl hne.2.1 }
  case pause => exact { h with bound := fun hne => absurd rfl hne.2.2 }
  case finish => exact { h with bound := trivial }

/-- The repetitions of R133: below 2 they go up by one. -/
theorem failAnimStep {a : FailAnimAt} (h : ScratchAt (.animF a) s) :
    ScratchAt (failAnimStep a s).ph (failAnimStep a s) := by
  have hbound : a ≠ .enter ∧ a ≠ .finish → s.rep.toNat < 2 := h.bound
  cases a
  case enter => exact { h with rep_le := Nat.zero_le _, bound := fun _ => show 0 < 2 by decide }
  case on | onHold | off => exact { h with bound := fun _ => hbound (by simp) }
  case offHold =>
    have hrep := hbound (by simp)
    have hrep' : (s.rep + 1#2).toNat ≤ 2 := by bv_omega
    simp only [Machine.failAnimStep, failOffHold_eq]
    split
    · exact { h with rep_le := hrep', bound := fun hne => absurd rfl hne.2 }
    · rename_i hne
      have hlt : (s.rep + 1#2).toNat < 2 := by
        simp only [nAnimRep] at hne
        bv_omega
      exact { h with rep_le := hrep', bound := fun _ => hlt }
  case finish => exact { h with bound := trivial }

theorem complete {p : Phase} (h : ScratchAt p s) (r : Half) (b : Bool) :
    ScratchAt (complete r b s).ph (complete r b s) :=
  { h with bound := trivial }

/-- Each primitive keeps the ranges and meets the bound of the phase it goes to. -/
theorem primitive {i : Instr} {t : State} (h : ScratchAt s.ph s) (hprim : Primitive s i t) :
    ScratchAt t.ph t := by
  cases hprim with
  | sample i a hi hp => rw [hp] at h; exact h.sampleStep
  | finishChannel hp =>
    obtain ⟨x, y, e⟩ := mixChannel_eq s
    rw [e]
    exact { h with bound := trivial }
  | finishRange r hp =>
    obtain ⟨x, y, e⟩ := mixRange_eq s
    rw [e]
    exact { h with bound := trivial }
  | enterShow b hp =>
    obtain ⟨x, y, e⟩ := mixChannel_eq s
    rw [e]
    exact { h with bound := trivial }
  | showTarget b a hp => exact h.showStep a
  | await b a hp => exact h.awaitStep a
  | relWait b o hp => exact h.releaseStep hp
  | resHit b hp => exact h.complete _ _
  | resFail b hp => exact h.complete _ _
  | dispEnter x hp => exact h.enterDisplay
  | dispH x a hp => exact blinkStep _ (.inl rfl) _ (hp ▸ h) h.toTens
  | dispT x a hp => exact blinkStep _ (.inr (.inl rfl)) _ (hp ▸ h) h.toUnits
  | dispU x a hp => exact blinkStep _ (.inr (.inr rfl)) _ (hp ▸ h) (h.complete _ _)
  | animS a hp => rw [hp] at h; exact h.startAnimStep
  | animF a hp => rw [hp] at h; exact h.failAnimStep

theorem accept {p : Phase} (h : ScratchAt p s) (i : Instr) :
    ScratchAt (firstPhase i) (accept i s) :=
  { h with
    bound := by
      cases i
      case rndch | rndrg | round | score => trivial
      case anims => exact fun hne => absurd rfl hne.1
      case animf => exact fun hne => absurd rfl hne.1 }

end ScratchAt

namespace ScratchInv

theorem reset : ScratchInv State.reset :=
  ScratchAt.scratchInv
    { scnt_le := Nat.zero_le _, digH_le := Nat.zero_le _, digT_le := Nat.zero_le _
      digU_le := Nat.zero_le _, blk_le := Nat.zero_le _, rep_le := Nat.zero_le _
      idx_le := Nat.zero_le _, bound := trivial }

end ScratchInv

/-- Settles O17: only the phases of R82, R121, R123, R131 and R133 write a scratch register, each within
its range. -/
theorem stepKeepsScratchRanges : Obligations.StepKeepsScratchRanges := by
  intro s t hs h
  obtain ⟨rest, -, rfl⟩ | e := step_next h
  · exact { ScratchInv.reset with }
  have hs' : ScratchInv (setTurns s.turns.tail s) := { hs with }
  cases e with
  | same => exact hs'
  | beginDelay => exact { hs' with }
  | countPeriod => exact { hs' with }
  | run i _ hb hc hexec =>
    obtain ⟨hidle, -⟩ | ⟨-, hprim⟩ := exec_next hexec
    · simp [hb] at hidle
    · exact (hs'.scratchAt.primitive hprim).scratchInv
  | accept i => exact (hs'.scratchAt.accept i).scratchInv
  | illegal => exact { hs' with }
  | read => exact { hs' with }

end Sys2Proof.Machine

namespace Sys2Proof.Machine

/-! ### What a step can change, and when -/

theorem turns_eq_cons {s : State} {x : Turn} (h : s.turns.head? = some x) :
    ∃ rest, s.turns = x :: rest :=
  (List.head?_eq_some_iff).mp h

/-- Settles O12: the only turn that clears `BUSY` and is no reset is a step of the running command, and
of those only a completion does. -/
theorem onlyCompletionOrResetEndsACommand : Obligations.OnlyCompletionOrResetEndsACommand := by
  intro s t h hb hb'
  obtain ⟨rest, ht, -⟩ | e := step_next h
  · exact .inr ⟨rest, ht⟩
  left
  cases e with
  | same => simp [hb] at hb'
  | beginDelay => simp [hb] at hb'
  | countPeriod => simp [hb] at hb'
  | run i _ _ hc hexec =>
    obtain h | h := exec_setTurns_advances_or_completes hb hexec
    · simp [h.busy, hb] at hb'
    · exact ⟨h.done, h.idle⟩
  | accept i w hidle => simp [hb] at hidle
  | illegal w r hidle => simp [hb] at hidle
  | read => simp [hb] at hb'

/-- Settles O13: the registers are written by accept, by completion and by an illegal word only. -/
theorem flagsChangeOnlyAtAcceptAndCompletion : Obligations.FlagsChangeOnlyAtAcceptAndCompletion := by
  refine ⟨fun s t h hreset => ?_, fun i s t h => ?_⟩
  · obtain ⟨rest, ht, -⟩ | e := step_next h
    · exact absurd ht (hreset rest)
    cases e with
    | same => simp
    | beginDelay => simp
    | countPeriod => simp
    | run i _ hb hc hexec =>
      obtain h | h := exec_setTurns_advances_or_completes hb hexec
      · simp [h.op, h.arg, h.done, h.hit, h.result, h.err]
      · simp [h.op, h.arg, h.err, hb, h.busy, h.done]
    | accept i w hb hw hd =>
      obtain ⟨rest, ht⟩ := turns_eq_cons hw
      have hlegal : s.busy = false ∧
          ∃ w i rest, s.turns = .write 0 w :: rest ∧ decode w = .command i :=
        ⟨hb, w, i, rest, ht, hd⟩
      exact ⟨fun _ => hlegal, fun _ => .inl hlegal, by simp⟩
    | illegal w r hb hw hd =>
      obtain ⟨rest, ht⟩ := turns_eq_cons hw
      have hillegal : (decode w).instr = none := by rw [hd]; rfl
      exact ⟨by simp, by simp, fun _ => ⟨rfl, hb, w, rest, ht, hillegal⟩⟩
    | read => simp
  · obtain ⟨herr, hcfg, hturns, hreads⟩ := exec_frame h
    refine ⟨herr, hcfg, hturns, hreads, fun hb => exec_keeps_op_arg hb h, fun hb hb' => ?_⟩
    obtain h | h := exec_advances_or_completes hb h
    · exact ⟨h.done, h.hit, h.result⟩
    · simp [h.busy] at hb'

/-- R12, R66: accept goes from `IDLE` to the first phase of a command. -/
theorem edge_firstPhase (i : Instr) : (Phase.idle.code, (firstPhase i).code) ∈ phaseEdges := by
  cases i <;> simp [firstPhase, Phase.code, phaseEdges]

/-- Settles O19: accept leaves `IDLE`, a step of the running command takes an edge of its own, and every
other turn leaves `PH`. -/
theorem phaseChangesAreTheListedOnes : Obligations.PhaseChangesAreTheListedOnes := by
  intro s t hs h hreset
  obtain ⟨rest, ht, -⟩ | e := step_next h
  · exact absurd ht (hreset rest)
  cases e with
  | run i _ hb hc hexec =>
    obtain h | h := exec_setTurns_advances_or_completes hb hexec
    · exact h.edge
    · rw [h.idle]
      exact .inr h.edge
  | accept i w hb =>
    rw [hs.idle_of_not_busy hb]
    exact .inr (edge_firstPhase i)
  | same | beginDelay | countPeriod | illegal | read => exact .inl rfl

/-! ### Runs of the machine -/

/-- Settles O59, by induction on the number of steps: each is `exec` of the command in progress, which
is the same after it. -/
theorem machineRunFollowsTheCommand : Obligations.MachineRunFollowsTheCommand := by
  intro i s t k
  induction k generalizing s with
  | zero => exact fun _ _ _ _ h => h
  | succ k ih =>
    intro hwf hturns hc hbusy hrun
    have hb : s.busy = true := hbusy 0 s (Nat.succ_pos k) rfl
    have hstep : step s = exec i s := (step_nil hwf hturns).trans (coreTurn_busy hb hc)
    simp only [runCommand] at hrun
    split at hrun
    · rename_i u hu
      obtain ⟨-, hcfg, hturns', -⟩ := exec_frame hu
      obtain ⟨hop, harg⟩ := exec_keeps_op_arg hb hu
      have hbusy' (j : Nat) (v : State) (hj : j < k) (hv : runCommand i j u = .next v) :
          v.busy = true :=
        hbusy (j + 1) v (Nat.succ_lt_succ hj) (by simp only [runCommand, hu, hv])
      have hnext : core.step s = .next u := hstep.trans hu
      simp only [Host.Core.run, hnext]
      exact ih u (hcfg ▸ hwf) (hturns'.trans hturns)
        ((currentCommand_congr hop harg).trans hc) hbusy' hrun
    · cases hrun
    · cases hrun

/-- Settles O60: the one turn that sets `BUSY` is an accept; a core turn and a tick of an idle core, and
a tick at no `Delay`, are steps that answer the state with the schedule moved on. -/
theorem idleCoreWaitsForALegalCommand : Obligations.IdleCoreWaitsForALegalCommand := by
  refine ⟨fun s t h hb hb' => ?_,
    fun s hwf hb => ⟨fun ht => ?_, fun rest ht => ?_, fun rest ht => ?_⟩,
    fun s rest hwf ht hp => ?_⟩
  · obtain ⟨rest, -, rfl⟩ | e := step_next h
    · cases hb'
    cases e with
    | accept i w _ hw hd =>
      obtain ⟨rest, ht⟩ := turns_eq_cons hw
      exact ⟨w, i, rest, ht, hd⟩
    | run i _ hrun => simp [hb] at hrun
    | same | beginDelay | countPeriod | illegal | read => simp [hb] at hb'
  · exact (step_nil hwf ht).trans (coreTurn_idle hb)
  · exact (step_cons hwf ht).trans (coreTurn_idle (s := setTurns rest s) hb)
  · exact (step_cons hwf ht).trans (tickTurn_idle (s := setTurns rest s) hb)
  · exact (step_cons hwf ht).trans (tickTurn_noDelay (s := setTurns rest s) hp)

/-! ### The host interface, reset, and the pads -/

/-- R15, R54: a host write of `CMD` that is next. -/
theorem step_writeCommand {s : State} {w : Word} {rest : List Turn} (hwf : s.cfg.wf = true)
    (ht : s.turns = .write 0#2 w :: rest) : step s = writeCommand w (setTurns rest s) :=
  step_cons hwf ht

/-- R15 to R18: a host write of any other register that is next. -/
theorem step_write_ignored {s : State} {x : RegIndex} {w : Word} {rest : List Turn}
    (hwf : s.cfg.wf = true) (hx : x ≠ 0#2) (ht : s.turns = .write x w :: rest) :
    step s = .next (setTurns rest s) :=
  (step_cons hwf ht).trans (if_neg hx)

/-- The word `withFetchWord` schedules for `i` is the one `i` is decoded from. -/
theorem withFetchWord_turns (i : Instr) (s : State) :
    (s.withFetchWord 32 (encode i).toNat).turns = .write 0#2 (encode i) :: s.turns := by
  simp only [State.withFetchWord, offerWord, Nat.mod_eq_of_lt (encode i).isLt, BitVec.ofNat_toNat,
    BitVec.setWidth_eq]

/-- Settles O5: a legal write and a core turn run the command, and `withFetchWord` schedules such a
write. -/
theorem stepRunsDecodedCommand : Obligations.StepRunsDecodedCommand := by
  refine ⟨fun s w i rest hwf hb ht hd => ?_,
    fun s i hwf hb hc => ⟨fun ht => ?_, fun rest ht => ?_⟩, fun s i hwf => ?_⟩
  · exact (step_writeCommand hwf ht).trans (writeCommand_command (s := setTurns rest s) hb hd)
  · exact (step_nil hwf ht).trans (coreTurn_busy hb hc)
  · exact (step_cons hwf ht).trans (coreTurn_busy (s := setTurns rest s) hb hc)
  · have hstep := step_writeCommand (s := s.withFetchWord 32 (encode i).toNat) hwf
      (withFetchWord_turns i s)
    exact hstep.trans (writeCommand_command rfl (decode_composeWord i))

/-- Settles O8: `writeCommand` looks at `BUSY` before it looks at the word. -/
theorem busyCommandWriteIsDropped : Obligations.BusyCommandWriteIsDropped :=
  fun s _ rest hwf hb ht =>
    (step_writeCommand hwf ht).trans (writeCommand_busy (s := setTurns rest s) hb)

theorem flagAt_getLsbD {k j : Nat} (hj : j < 32) (b : Bool) :
    (flagAt k b).getLsbD j = (decide (j = k) && b) := by
  simp only [flagAt, BitVec.getLsbD_shiftLeft, BitVec.getLsbD_setWidth, BitVec.getLsbD_ofBool, hj]
  by_cases h : j = k
  · simp [h]
  · simp [h]; omega

/-- R16: `STATUS` bit by bit. -/
theorem statusWord_getLsbD {j : Nat} (hj : j < 32) (s : State) :
    (statusWord s).getLsbD j =
      (decide (j = 0) && s.busy || decide (j = 1) && s.done || decide (j = 2) && s.hit ||
        decide (j = 3) && s.err || decide (4 ≤ j) && s.ph.code.getLsbD (j - 4)) := by
  have h : j - 4 < 32 := by omega
  have h4 : decide (4 ≤ j) = !decide (j < 4) := by simp only [← Nat.not_lt, decide_not]
  simp only [statusWord, BitVec.getLsbD_or, flagAt_getLsbD hj, BitVec.getLsbD_shiftLeft,
    BitVec.getLsbD_setWidth]
  simp [hj, h, h4]

/-- From bit 4 up `STATUS` is the phase code. -/
theorem statusWord_getLsbD_add_four {j : Nat} (hj : j < 28) (s : State) :
    (statusWord s).getLsbD (4 + j) = s.ph.code.getLsbD j := by
  rw [statusWord_getLsbD (by omega)]
  have h1 : 4 + j ≠ 1 := by omega
  have h2 : 4 + j ≠ 2 := by omega
  have h3 : 4 + j ≠ 3 := by omega
  simp [h1, h2, h3]

theorem statusWord_phase (s : State) : (statusWord s).extractLsb' 4 4 = s.ph.code := by
  apply BitVec.eq_of_getLsbD_eq
  intro j hj
  rw [BitVec.getLsbD_extractLsb', statusWord_getLsbD_add_four (by omega)]
  simp [hj]

theorem statusWord_high (s : State) : (statusWord s).extractLsb' 8 24 = 0#24 := by
  apply BitVec.eq_of_getLsbD_eq
  intro j hj
  have e : 8 + j = 4 + (4 + j) := by omega
  rw [BitVec.getLsbD_extractLsb', e, statusWord_getLsbD_add_four (by omega),
    BitVec.getLsbD_of_ge _ _ (by omega)]
  simp

/-- Settles O10: a read records the register's value and a write of another register than `CMD` is
ignored. -/
theorem hostAccessesOtherThanCommand : Obligations.HostAccessesOtherThanCommand := by
  intro s rest hwf
  refine ⟨fun x ht => ⟨readRegister x s, step_cons hwf ht, ?_, ?_, ?_, ?_⟩,
    fun x w hx ht => step_write_ignored hwf hx ht⟩
  · rintro rfl
    rfl
  · rintro rfl
    rfl
  · rintro rfl
    have := s.result.isLt
    change (s.result.setWidth 32).toNat = s.result.toNat
    rw [BitVec.toNat_setWidth]
    omega
  · rintro rfl
    refine ⟨?_, ?_, ?_, ?_, statusWord_phase s, statusWord_high s⟩ <;>
      exact (statusWord_getLsbD (by decide) s).trans (by simp)

/-- Settles O11: the registers of a reset state are those of `State.reset`. -/
theorem resetGivesTheResetValues : Obligations.ResetGivesTheResetValues := by
  intro s rest hwf ht
  refine ⟨resetMachine (setTurns rest s), step_cons hwf ht, ?_⟩
  simp [State.reset]

/-- Settles O15: the reset core is idle, at no `Delay`, with nothing done and every register 0. -/
theorem resetMeetsTheInvariants : Obligations.ResetMeetsTheInvariants :=
  ⟨Inv.reset, ScratchInv.reset⟩

theorem Level.other_ne (l : Level) : Level.other l ≠ l := by
  cases l <;> decide

/-- Settles O23: the mode bits of a channel are those of all four. -/
theorem padsAreDrivenFromTheLatches : Obligations.PadsAreDrivenFromTheLatches := by
  intro s c
  have hout (h : s.mode = 0b1111#4) : s.mode.getLsbD c.toNat = true := by
    rw [h]
    revert c
    decide
  refine ⟨fun h => ?_, fun h hled => ?_, fun h hled => ?_⟩
  · simp [padDrive, h]
  · simp [padDrive, hout h, hled]
  · exact ⟨_, by simp only [padDrive, hout h, hled]; rfl, Level.other_ne _⟩

end Sys2Proof.Machine

/-! # The primitives, the trace and the delays (spec/20_memory.md) -/

namespace Sys2Proof.Machine

/-! ### A step appends at most one event -/

/-- R52, R55: the trace of `t` is that of `s`, or has one event more at its end. -/
def AppendsAtMostOne (s t : State) : Prop :=
  t.trace = s.trace ∨ ∃ e, t.trace = s.trace ++ [e]

section
variable {s : State}

/-- A delay that ticks have begun has its event in the trace already. -/
theorem delay_appends (n : Nat) : AppendsAtMostOne s (delay n s) := by
  by_cases h : s.dly = 0#10
  · exact .inr ⟨.delay n, by rw [delay_trace, if_pos h]⟩
  · exact .inl (by rw [delay_trace, if_neg h])

theorem accumulateSample_appends : AppendsAtMostOne s (accumulateSample s) := by
  rw [accumulateSample_eq]
  exact .inr ⟨_, rfl⟩

theorem sampleStep_appends (a : SampleAt) : AppendsAtMostOne s (sampleStep a s) := by
  unfold sampleStep
  split
  · split
    · exact .inr ⟨_, rfl⟩
    · exact accumulateSample_appends (s := { s with seed := 0#16, scnt := 0#5 })
  · split
    · exact .inl rfl
    · exact accumulateSample_appends

theorem showStep_appends (a : ShowAt) : AppendsAtMostOne s (showStep a s) := by
  cases a
  case hold => exact delay_appends tShow
  case assert | deassert | leave => exact .inr ⟨_, rfl⟩

theorem awaitStep_appends (a : AwaitAt) : AppendsAtMostOne s (awaitStep a s) := by
  cases a
  case wait => exact delay_appends tPoll
  case test =>
    simp only [awaitStep]
    split
    · obtain ⟨p, -, h⟩ := leaveAwait_eq s
      exact .inl (by rw [h])
    · obtain ⟨p, -, h⟩ := poll_eq s
      exact .inr ⟨_, by rw [h]; rfl⟩

theorem releaseStep_appends (o : RoundOutcome) : AppendsAtMostOne s (releaseStep o s) := by
  rw [releaseStep_eq]
  exact .inr ⟨_, rfl⟩

/-- What leaves a digit (R122, R67) appends nothing. -/
theorem blinkStep_appends (c : Channel) (here : BlinkAt → Phase) {leave : State → State}
    (hleave : (leave s).trace = s.trace) (a : BlinkAt) :
    AppendsAtMostOne s (blinkStep c here leave a s) := by
  cases a
  case test =>
    simp only [blinkStep]
    split
    · exact .inl hleave
    · exact .inr ⟨_, rfl⟩
  case onHold => exact delay_appends tBlinkOn
  case off => exact .inr ⟨_, rfl⟩
  case offHold => exact delay_appends tBlinkOff

theorem startAnimStep_appends (a : StartAnimAt) : AppendsAtMostOne s (startAnimStep a s) := by
  cases a
  case enter | offWrite | onWrite => exact .inr ⟨_, rfl⟩
  case offHold =>
    simp only [startAnimStep, offSweepHold_eq]
    exact delay_appends tAnimStep
  case onHold =>
    obtain ⟨-, h⟩ | ⟨-, h⟩ | ⟨-, h⟩ := onSweepHold_cases s <;>
      simp only [startAnimStep, h] <;> exact delay_appends tAnimStep
  case pause => exact delay_appends tAnimPause
  case finish => exact .inl rfl

theorem failAnimStep_appends (a : FailAnimAt) : AppendsAtMostOne s (failAnimStep a s) := by
  cases a
  case enter | on | off => exact .inr ⟨_, rfl⟩
  case onHold => exact delay_appends tFail
  case offHold =>
    simp only [failAnimStep, failOffHold_eq]
    exact delay_appends tFail
  case finish => exact .inl rfl

/-- R52: one step of a running command is one environment primitive, or none. -/
theorem Primitive.appendsAtMostOne {i : Instr} {t : State} (h : Primitive s i t) :
    AppendsAtMostOne s t := by
  cases h with
  | sample i a => exact sampleStep_appends a
  | finishChannel =>
    obtain ⟨x, y, h⟩ := mixChannel_eq s
    rw [h]
    exact .inl rfl
  | finishRange r =>
    obtain ⟨x, y, h⟩ := mixRange_eq s
    rw [h]
    exact .inl rfl
  | enterShow b =>
    obtain ⟨x, y, h⟩ := mixChannel_eq s
    rw [h]
    exact .inr ⟨_, rfl⟩
  | showTarget b a => exact showStep_appends a
  | await b a => exact awaitStep_appends a
  | relWait b o => exact releaseStep_appends o
  | resHit b => exact .inl rfl
  | resFail b => exact .inl rfl
  | dispEnter x => exact .inr ⟨_, rfl⟩
  | dispH x a => exact blinkStep_appends _ _ rfl a
  | dispT x a => exact blinkStep_appends _ _ rfl a
  | dispU x a => exact blinkStep_appends _ _ rfl a
  | animS a => exact startAnimStep_appends a
  | animF a => exact failAnimStep_appends a

end

/-- Settles O14: beside a primitive of the running command only the first tick of a delay appends an
event. -/
theorem stepAppendsAtMostOneEvent : Obligations.StepAppendsAtMostOneEvent := by
  intro s t h hreset
  obtain ⟨rest, ht, -⟩ | e := step_next h
  · exact absurd ht (hreset rest)
  cases e with
  | beginDelay => exact .inr ⟨_, rfl⟩
  | run i _ hb hc hexec =>
    obtain ⟨-, rfl⟩ | ⟨-, hprim⟩ := exec_next hexec
    · exact .inl rfl
    · exact hprim.appendsAtMostOne
  | same | countPeriod | accept | illegal | read => exact .inl rfl

/-! ### A delay in progress -/

/-- `s` with its `Delay(n)` begun, the event appended, and `d` periods of it left (R46, R149). -/
def midDelay (n d : Nat) (s : State) : State :=
  { emit (.delay n) s with dly := BitVec.ofNat 10 d }

section
variable {s : State} (n d : Nat)

@[simp] theorem midDelay_cnt : (midDelay n d s).cnt = s.cnt := rfl
@[simp] theorem midDelay_blk : (midDelay n d s).blk = s.blk := rfl
@[simp] theorem midDelay_idx : (midDelay n d s).idx = s.idx := rfl
@[simp] theorem midDelay_rep : (midDelay n d s).rep = s.rep := rfl
@[simp] theorem midDelay_dly : (midDelay n d s).dly = BitVec.ofNat 10 d := rfl

theorem beginDelay_eq_midDelay : beginDelay n s = midDelay n n s := rfl

theorem setTurns_midDelay (rest : List Turn) :
    setTurns rest (midDelay n d s) = midDelay n d (setTurns rest s) := rfl

theorem countPeriod_midDelay : countPeriod (midDelay n (d + 1) s) = midDelay n d s := by
  have h : BitVec.ofNat 10 (d + 1) - 1#10 = BitVec.ofNat 10 d := by
    rw [BitVec.ofNat_add, BitVec.add_sub_cancel]
  exact congrArg (fun x => { emit (.delay n) s with dly := x }) h

end

section
variable {s : State} {n d : Nat} (h0 : s.dly = 0#10) (hd : BitVec.ofNat 10 d ≠ 0#10)
include h0 hd

/-- The core finishes a begun delay in the state it reaches when it walks the delay at once. -/
theorem delay_midDelay : delay n (midDelay n d s) = delay n s := by
  unfold delay
  rw [midDelay_dly, if_neg hd, if_pos h0]
  rfl

theorem showStep_midDelay {a : ShowAt} (hn : (Phase.showTarget a).delayAt = some n) :
    showStep a (midDelay n d s) = showStep a s := by
  cases a <;> cases hn
  case hold => simp only [showStep, delay_midDelay h0 hd]

theorem awaitStep_midDelay {a : AwaitAt} (hn : (Phase.await a).delayAt = some n) :
    awaitStep a (midDelay n d s) = awaitStep a s := by
  cases a <;> cases hn
  case wait => simp only [awaitStep, delay_midDelay h0 hd, midDelay_cnt]

theorem blinkStep_midDelay (c : Channel) {here : BlinkAt → Phase}
    (hhere : here = .dispH ∨ here = .dispT ∨ here = .dispU) (leave : State → State) {a : BlinkAt}
    (hn : (here a).delayAt = some n) :
    blinkStep c here leave a (midDelay n d s) = blinkStep c here leave a s := by
  have hdelay : (here a).delayAt = (Phase.dispH a).delayAt := by
    obtain rfl | rfl | rfl := hhere <;> cases a <;> rfl
  rw [hdelay] at hn
  cases a <;> cases hn
  case onHold => simp only [blinkStep, delay_midDelay h0 hd]
  case offHold => simp only [blinkStep, delay_midDelay h0 hd, midDelay_blk]

theorem startAnimStep_midDelay {a : StartAnimAt} (hn : (Phase.animS a).delayAt = some n) :
    startAnimStep a (midDelay n d s) = startAnimStep a s := by
  cases a <;> cases hn
  case offHold => simp only [startAnimStep, offSweepHold, delay_midDelay h0 hd, midDelay_idx]
  case onHold =>
    simp only [startAnimStep, onSweepHold, delay_midDelay h0 hd, midDelay_idx, midDelay_rep]
  case pause => simp only [startAnimStep, delay_midDelay h0 hd]

theorem failAnimStep_midDelay {a : FailAnimAt} (hn : (Phase.animF a).delayAt = some n) :
    failAnimStep a (midDelay n d s) = failAnimStep a s := by
  cases a <;> cases hn
  case onHold => simp only [failAnimStep, delay_midDelay h0 hd]
  case offHold => simp only [failAnimStep, failOffHold, delay_midDelay h0 hd, midDelay_rep]

/-- The core's step at a delay ends the same, whether ticks have begun the delay or not. -/
theorem exec_midDelay {i : Instr} (hb : s.busy = true) (hi : s.ph.belongsTo i = true)
    (hn : s.ph.delayAt = some n) : exec i (midDelay n d s) = exec i s := by
  obtain ⟨t, ht⟩ := exec_of_belongsTo hb hi
  obtain ⟨hidle, -⟩ | ⟨-, hprim⟩ := exec_next ht
  · simp [hb] at hidle
  rw [ht]
  refine exec_of_primitive hb ?_
  cases hprim
  case showTarget b a hp =>
    rw [← showStep_midDelay h0 hd (hp ▸ hn)]
    exact .showTarget b a hp
  case await b a hp =>
    rw [← awaitStep_midDelay h0 hd (hp ▸ hn)]
    exact .await b a hp
  case dispH x a hp =>
    rw [← blinkStep_midDelay h0 hd _ (.inl rfl) _ (hp ▸ hn)]
    exact .dispH x a hp
  case dispT x a hp =>
    rw [← blinkStep_midDelay h0 hd _ (.inr (.inl rfl)) _ (hp ▸ hn)]
    exact .dispT x a hp
  case dispU x a hp =>
    rw [← blinkStep_midDelay h0 hd _ (.inr (.inr rfl)) _ (hp ▸ hn)]
    exact .dispU x a hp
  case animS a hp =>
    rw [← startAnimStep_midDelay h0 hd (hp ▸ hn)]
    exact .animS a hp
  case animF a hp =>
    rw [← failAnimStep_midDelay h0 hd (hp ▸ hn)]
    exact .animF a hp
  -- No other phase is a delay.
  case sample a hp _ =>
    rw [hp] at hn
    cases hn
  all_goals
    rename_i hp
    rw [hp] at hn
    cases hn

theorem coreTurn_midDelay {i : Instr} (hb : s.busy = true) (hc : currentCommand s = some i)
    (hi : s.ph.belongsTo i = true) (hn : s.ph.delayAt = some n) :
    coreTurn (midDelay n d s) = coreTurn s := by
  rw [coreTurn_busy (s := midDelay n d s) hb hc, coreTurn_busy hb hc, exec_midDelay h0 hd hb hi hn]

end

/-! ### The ticks of a delay, as steps -/

theorem run_succ {s t : State} (h : step s = .next t) (k : Nat) :
    Host.Core.run core (k + 1) s = Host.Core.run core k t := by
  have hstep : core.step s = .next t := h
  simp only [Host.Core.run, hstep]

theorem run_one (s : State) : Host.Core.run core 1 s = step s := by
  have hstep : core.step s = step s := rfl
  simp only [Host.Core.run, hstep]
  cases step s <;> rfl

section
variable {s : State} {n : Nat} {rest : List Turn} (hwf : s.cfg.wf = true) (hb : s.busy = true)
  (hn : s.ph.delayAt = some n)
include hwf hb hn

theorem step_tick_begin (ht : s.turns = .tick :: rest) (h0 : s.dly = 0#10) :
    step s = .next (beginDelay n (setTurns rest s)) :=
  (step_cons hwf ht).trans (tickTurn_begin (s := setTurns rest s) hb hn h0)

theorem step_tick_count (ht : s.turns = .tick :: rest) (h1 : 1 < s.dly.toNat) :
    step s = .next (countPeriod (setTurns rest s)) := by
  have hne0 : s.dly ≠ 0#10 := by bv_omega
  have hne1 : s.dly ≠ 1#10 := by bv_omega
  exact (step_cons hwf ht).trans (tickTurn_count (s := setTurns rest s) hb hn hne0 hne1)

/-- The last tick of a delay is a turn of the core. -/
theorem step_tick_last (ht : s.turns = .tick :: rest) (h1 : s.dly = 1#10) :
    step s = coreTurn (setTurns rest s) :=
  (step_cons hwf ht).trans (tickTurn_last (s := setTurns rest s) hb hn h1)

/-- `k` ticks, no more than the delay has periods, begin it and leave `n + 1 - k` periods of it. -/
theorem run_ticks (h0 : s.dly = 0#10) {k : Nat} (hk : 1 ≤ k) (hkn : k ≤ n) (m : Nat) :
    Host.Core.run core (k + m) (setTurns (List.replicate k .tick ++ rest) s) =
      Host.Core.run core m (midDelay n (n + 1 - k) (setTurns rest s)) := by
  obtain ⟨-, hn1000, -⟩ := delayAt_range hn
  induction k, hk using Nat.le_induction generalizing m rest with
  | base =>
    have hstep := step_tick_begin (s := setTurns (.tick :: rest) s) hwf hb hn rfl h0
    rw [beginDelay_eq_midDelay] at hstep
    rw [Nat.add_comm 1 m, Nat.add_sub_cancel]
    exact run_succ hstep m
  | succ k hk ih =>
    obtain ⟨d, hd⟩ : ∃ d, n + 1 - k = d + 1 := ⟨n - k, by omega⟩
    have hd' : n + 1 - (k + 1) = d := by omega
    have hstep := step_tick_count (s := midDelay n (d + 1) (setTurns (.tick :: rest) s))
      hwf hb hn rfl (by rw [midDelay_dly, BitVec.toNat_ofNat]; omega)
    rw [List.replicate_succ', List.append_assoc, Nat.add_assoc, Nat.add_comm 1 m,
      List.singleton_append, ih (by omega), hd, hd',
      run_succ hstep, setTurns_midDelay, countPeriod_midDelay]
    rfl

end

/-- Settles O24: the ticks leave a delay in progress; then the last tick of it, or a core turn, is the
core's step, which ends as it would have without them. -/
theorem tickedDelayEqualsDelayInOneStep : Obligations.TickedDelayEqualsDelayInOneStep := by
  intro s i n rest hwf hb hc hi hn h0
  obtain ⟨hn1, hn1000, -⟩ := delayAt_range hn
  have hcore := step_cons (s := setTurns (.core :: rest) s) hwf rfl
  have hlast (d : Nat) (hd : BitVec.ofNat 10 d ≠ 0#10) :
      coreTurn (midDelay n d (setTurns rest s)) = step (setTurns (.core :: rest) s) :=
    (coreTurn_midDelay (s := setTurns rest s) h0 hd hb hc hi hn).trans hcore.symm
  refine ⟨?_, fun k hk hkn => ?_⟩
  · have hrun := run_ticks (rest := .tick :: rest) hwf hb hn h0 hn1 le_rfl 1
    have hone : n + 1 - n = 1 := by omega
    have htick := step_tick_last (s := midDelay n 1 (setTurns (.tick :: rest) s)) hwf hb hn rfl rfl
    rw [hone, run_one, htick] at hrun
    rw [List.replicate_succ', List.append_assoc, List.singleton_append]
    exact hrun.trans (hlast 1 (by decide))
  · have hrun := run_ticks (rest := .core :: rest) hwf hb hn h0 hk hkn 1
    have hturn := step_cons (s := midDelay n (n + 1 - k) (setTurns (.core :: rest) s)) hwf rfl
    rw [run_one, hturn] at hrun
    exact hrun.trans (hlast (n + 1 - k) (by bv_omega))

/-- Settles O25: the first tick begins the delay and a later one that is not its last counts a period. -/
theorem onlyTheDelayCounterMovesDuringADelay :
    Obligations.OnlyTheDelayCounterMovesDuringADelay :=
  fun _ _ _ hwf hb ht hn =>
    ⟨fun h0 => step_tick_begin hwf hb hn ht h0, fun h1 => step_tick_count hwf hb hn ht h1⟩

/-! ### The pins and the environment -/

/-- Settles O21: each pin write is one record update; the latch is that of `withLatch`. -/
theorem pinWritesChangeWhatTheyName : Obligations.PinWritesChangeWhatTheyName :=
  fun s => ⟨rfl, rfl, fun _ => rfl, fun c b =>
    ⟨withLatch s.led c b, rfl, fun j => withLatch_getLsbD s.led c j b⟩⟩

/-- R20: a channel is pressed iff its pad reads Low. -/
theorem pressedOf_getLsbD (levels : Pads) (c : Channel) :
    (pressedOf levels).getLsbD c.toNat = !levels.getLsbD c.toNat := by
  have hc : c.toNat < 4 := c.isLt
  simp [pressedOf, hc]

/-- R45: a sample of at most 16 bits is zero-extended. -/
theorem sampleOf_toNat_narrow {width : Nat} (h : width ≤ 16) (raw : Nat) :
    (sampleOf width raw).toNat = raw % 2 ^ width := by
  have hlt : raw % 2 ^ width < 2 ^ 16 :=
    (Nat.mod_lt raw (Nat.two_pow_pos width)).trans_le (Nat.pow_le_pow_right (by decide) h)
  rw [sampleOf, BitVec.toNat_ofNat, Nat.mod_eq_of_lt hlt]

/-- R45: of a wider sample the core sees the low 16 bits. -/
theorem sampleOf_toNat_wide {width : Nat} (h : 16 < width) (raw : Nat) :
    (sampleOf width raw).toNat = raw % 2 ^ 16 := by
  rw [sampleOf, BitVec.toNat_ofNat, Nat.mod_mod_of_dvd _ (Nat.pow_dvd_pow 2 h.le)]

/-- Settles O22: each question is one record update; the answer is the first of its list. -/
theorem environmentAnswersAsTheSpecReadsThem :
    Obligations.EnvironmentAnswersAsTheSpecReadsThem := by
  refine fun s => ⟨rfl, rfl, rfl, fun levels rest c h => ?_, fun raw rest h => ?_,
    fun v rest h => ?_⟩
  · rw [pressedNow, h]
    exact pressedOf_getLsbD levels c
  · have hsample : sampleNow s = sampleOf s.cfg.adcWidth raw := by rw [sampleNow, h]; rfl
    rw [hsample]
    exact ⟨fun h => sampleOf_toNat_narrow h raw, fun h => sampleOf_toNat_wide h raw⟩
  · rw [drawNow, h]
    rfl

end Sys2Proof.Machine

namespace Sys2Proof

/-! ### Decoding and the fields of a word -/

/-- R62 to R64: a word is a command iff it has the command's three fields. -/
theorem decode_eq_command_iff {w : Word} {i : Instr} :
    decode w = .command i ↔
      zeroField w = 0#12 ∧ opField w = opcodeOf i ∧ argField w = operandOf i := by
  refine ⟨decode_command, fun ⟨hz, ho, ha⟩ => ?_⟩
  rw [← compose_fields w, hz, ho, ha]
  exact Machine.decode_composeWord i

theorem decode_encode (i : Instr) : decode (encode i) = .command i :=
  Machine.decode_composeWord i

/-- The opcode table numbers the bits of a word as `BitVec.toNat` does. -/
theorem decodeTableWord_toNat (w : Word) : decodeTableWord 32 w.toNat = (decode w).instr := by
  rw [decodeTableWord, Nat.mod_eq_of_lt w.isLt, BitVec.ofNat_toNat, BitVec.setWidth_eq]

theorem Decoded.instr_eq_none_iff {d : Decoded} : d.instr = none ↔ ∃ r, d = .illegal r := by
  cases d <;> simp [Decoded.instr]

/-- Settles O2: the fields of a composed word are those it is composed of, and on them `decode`
finds the command again. -/
theorem decodeOfEncodeIsIdentity : Obligations.DecodeOfEncodeIsIdentity := by
  refine fun i => ⟨decode_encode i, ?_⟩
  rw [decodeTableWord_toNat, decode_encode]
  rfl

/-! ### Masked words, field by field -/

/-- Two words are equal iff their three fields are: the fields cover the word. -/
theorem word_eq_iff_fields {v w : Word} :
    v = w ↔ opField v = opField w ∧ zeroField v = zeroField w ∧ argField v = argField w := by
  refine ⟨fun h => h ▸ ⟨rfl, rfl, rfl⟩, fun ⟨ho, hz, ha⟩ => ?_⟩
  rw [← compose_fields v, ho, hz, ha, compose_fields]

theorem opField_and (v w : Word) : opField (v &&& w) = opField v &&& opField w :=
  BitVec.extractLsb'_and

theorem zeroField_and (v w : Word) : zeroField (v &&& w) = zeroField v &&& zeroField w :=
  BitVec.extractLsb'_and

theorem argField_and (v w : Word) : argField (v &&& w) = argField v &&& argField w :=
  BitVec.extractLsb'_and

/-- A masked comparison is one on each field. -/
theorem and_eq_iff {w mask v : Word} :
    w &&& mask = v ↔
      opField w &&& opField mask = opField v ∧ zeroField w &&& zeroField mask = zeroField v ∧
        argField w &&& argField mask = argField v := by
  rw [word_eq_iff_fields, opField_and, zeroField_and, argField_and]

theorem opField_maskOf (i : Instr) : opField (maskOf i) = BitVec.allOnes 4 := by
  cases i <;> simp only [maskOf] <;> decide

theorem zeroField_maskOf (i : Instr) : zeroField (maskOf i) = BitVec.allOnes 12 := by
  cases i <;> simp only [maskOf] <;> decide

theorem matchOf_eq_composeWord (i : Instr) : matchOf i = composeWord (opcodeOf i) 0#12 0#16 := by
  cases i <;> simp only [matchOf, opcodeOf] <;> decide

/-- R62: the mask compares all of `op` and `zero`, and of `arg` the part that must be 0. -/
theorem and_maskOf_eq_matchOf_iff (w : Word) (i : Instr) :
    w &&& maskOf i = matchOf i ↔
      opField w = opcodeOf i ∧ zeroField w = 0#12 ∧ argField w &&& argField (maskOf i) = 0#16 := by
  rw [and_eq_iff, matchOf_eq_composeWord, opField_maskOf, zeroField_maskOf,
    BitVec.and_allOnes, BitVec.and_allOnes, opField_compose, zeroField_compose, argField_compose]

/-- R62: the lower half of the mask `0xFFFF0000` is 0. -/
theorem argField_upperMask : argField 0xFFFF0000#32 = 0#16 := by decide

/-- The mask keeps no bit of an operand: a command has an operand or a mask on `arg`, never both. -/
theorem operandOf_and_maskOf (i : Instr) : operandOf i &&& argField (maskOf i) = 0#16 := by
  cases i with
  | rndch | anims | animf => exact BitVec.zero_and
  | rndrg | round | score => rw [maskOf, argField_upperMask, BitVec.and_zero]

/-- Settles O3: both sides fix the three fields of the word. -/
theorem decodeIsMaskAndMatch : Obligations.DecodeIsMaskAndMatch := by
  intro w i
  rw [decode_eq_command_iff, and_maskOf_eq_matchOf_iff]
  constructor
  · rintro ⟨hz, ho, ha⟩
    exact ⟨⟨ho, hz, ha ▸ operandOf_and_maskOf i⟩, ha.symm⟩
  · rintro ⟨⟨ho, hz, -⟩, ha⟩
    exact ⟨hz, ho, ha.symm⟩

/-! ### The illegal words -/

/-- R63's three clauses, on the word as a plain number. -/
def IllegalByField (w : Word) : Prop :=
  w.toNat / 2 ^ 28 = 0 ∨ 7 ≤ w.toNat / 2 ^ 28 ∨ w.toNat / 2 ^ 16 % 2 ^ 12 ≠ 0 ∨
    ((w.toNat / 2 ^ 28 = 1 ∨ w.toNat / 2 ^ 28 = 5 ∨ w.toNat / 2 ^ 28 = 6) ∧
      w.toNat % 2 ^ 16 ≠ 0)

theorem illegalByField_iff (w : Word) :
    IllegalByField w ↔
      opField w = 0#4 ∨ 7#4 ≤ opField w ∨ zeroField w ≠ 0#12 ∨
        ((opField w = 1#4 ∨ opField w = 5#4 ∨ opField w = 6#4) ∧ argField w ≠ 0#16) := by
  rw [IllegalByField, ← opField_toNat, ← zeroField_toNat, ← argField_toNat]
  simp [BitVec.le_def, ← BitVec.toNat_inj]

theorem withoutOperand_instr_eq_none_iff (a : Half) (i : Instr) :
    (withoutOperand a i).instr = none ↔ a ≠ 0#16 := by
  unfold withoutOperand
  split <;> simp [Decoded.instr, *]

/-- R63, R64: `decode` asks for `zero`, then for the six opcodes one by one; each command's branch
agrees with the clauses, and past the last branch only the reserved opcodes are left. -/
theorem decode_instr_eq_none_iff (w : Word) : (decode w).instr = none ↔ IllegalByField w := by
  rw [illegalByField_iff]
  unfold decode
  split
  next hz => simp [Decoded.instr, hz]
  next hz =>
  rw [not_ne_iff] at hz
  split
  next h1 => simp [withoutOperand_instr_eq_none_iff, h1, hz]
  split
  next h2 => simp [Decoded.instr, h2, hz]
  split
  next h3 => simp [Decoded.instr, h3, hz]
  split
  next h4 => simp [Decoded.instr, h4, hz]
  split
  next h5 => simp [withoutOperand_instr_eq_none_iff, h5, hz]
  split
  next h6 => simp [withoutOperand_instr_eq_none_iff, h6, hz]
  next h1 h2 h3 h4 h5 h6 =>
  have hreserved : opField w = 0#4 ∨ 7#4 ≤ opField w := by bv_omega
  simp only [Decoded.instr, true_iff]
  exact hreserved.imp_right .inl

/-- `WellFormed.lean` reads `op` by a shift of the word. -/
theorem shiftRight_toNat (w : Word) : (w >>> 28).toNat = (opField w).toNat := by
  rw [BitVec.toNat_ushiftRight, Nat.shiftRight_eq_div_pow, opField_toNat]

theorem shiftRight_eq_iff (w : Word) (o : BitVec 4) :
    w >>> 28 = o.setWidth 32 ↔ opField w = o := by
  rw [← BitVec.toNat_inj, shiftRight_toNat, BitVec.toNat_setWidth_of_le (by decide),
    BitVec.toNat_inj]

theorem opLegal_iff (w : Word) :
    Word.opLegal w = true ↔ opField w ≠ 0#4 ∧ ¬ 7#4 ≤ opField w := by
  rw [Word.opLegal, decide_eq_true_iff, shiftRight_toNat]
  bv_omega

theorem zeroMask_eq_composeWord : 0x0FFF0000#32 = composeWord 0#4 (BitVec.allOnes 12) 0#16 := by
  decide

theorem argMask_eq_composeWord : 0x0000FFFF#32 = composeWord 0#4 0#12 (BitVec.allOnes 16) := by
  decide

theorem zero_eq_composeWord : 0#32 = composeWord 0#4 0#12 0#16 := by decide

theorem zeroLegal_iff (w : Word) : Word.zeroLegal w = true ↔ zeroField w = 0#12 := by
  rw [Word.zeroLegal, beq_iff_eq, and_eq_iff, zeroMask_eq_composeWord, zero_eq_composeWord]
  simp only [opField_compose, zeroField_compose, argField_compose, BitVec.and_allOnes,
    BitVec.and_zero, true_and, and_true]

theorem and_argMask_eq_zero_iff (w : Word) : w &&& 0x0000FFFF#32 = 0#32 ↔ argField w = 0#16 := by
  rw [and_eq_iff, argMask_eq_composeWord, zero_eq_composeWord]
  simp only [opField_compose, zeroField_compose, argField_compose, BitVec.and_allOnes,
    BitVec.and_zero, true_and]

theorem operandLegal_iff (w : Word) :
    Word.operandLegal w = true ↔
      (opField w = 1#4 ∨ opField w = 5#4 ∨ opField w = 6#4 → argField w = 0#16) := by
  have h1 : w >>> 28 = 1#32 ↔ opField w = 1#4 := shiftRight_eq_iff w 1#4
  have h5 : w >>> 28 = 5#32 ↔ opField w = 5#4 := shiftRight_eq_iff w 5#4
  have h6 : w >>> 28 = 6#32 ↔ opField w = 6#4 := shiftRight_eq_iff w 6#4
  simp only [Word.operandLegal, h1, h5, h6, Bool.ite_eq_true_distrib, beq_iff_eq,
    and_argMask_eq_zero_iff, if_true_right]

/-- The three checks of `WellFormed.lean` are the three clauses of R63. -/
theorem wf_eq_false_iff (w : Word) : Word.wf w = false ↔ IllegalByField w := by
  rw [illegalByField_iff, ← Bool.not_eq_true, Word.wf, Bool.and_eq_true, Bool.and_eq_true,
    opLegal_iff, zeroLegal_iff, operandLegal_iff]
  tauto

/-- Settles O4: `decode` and the well-formedness check refuse the words of R63's clauses. -/
theorem illegalWordsByField : Obligations.IllegalWordsByField :=
  fun w => ⟨decode_instr_eq_none_iff w, (decode_instr_eq_none_iff w).trans (wf_eq_false_iff w).symm⟩

end Sys2Proof

namespace Sys2Proof.Machine

/-! ### What a written command word does -/

/-- Settles O1: the decoder evaluated on each word of R70. -/
theorem workedEncodingsDecode : Obligations.WorkedEncodingsDecode := by
  unfold Obligations.WorkedEncodingsDecode
  decide

/-- A host write at the head of the schedule is taken in the state without it. -/
theorem step_write_next {s : State} (w : Word) (hwf : s.cfg.wf = true) :
    step { s with turns := .write 0#2 w :: s.turns } = writeCommand w s :=
  step_writeCommand (s := { s with turns := .write 0#2 w :: s.turns }) hwf rfl

/-- R66: `OP` and `ARG` are the fields of the command's word. -/
theorem accept_eq_fields (i : Instr) (s : State) :
    accept i s =
      { s with
        op := opField (encode i), arg := argField (encode i)
        busy := true, done := false, hit := false, result := 0, ph := firstPhase i } := by
  obtain ⟨ho, -, ha⟩ := Laws.EncodeFields.statement_of_compose i
  rw [ho, ha]
  rfl

/-- Settles O6: with `BUSY = 0` `exec` is `accept`, and so is the write of the command's word. -/
theorem acceptStartsTheCommand : Obligations.AcceptStartsTheCommand := by
  refine fun i s hb => ⟨accept i s, exec_idle i s hb, accept_eq_fields i s, ?_, ?_,
    currentCommand_accept i s, fun hwf => ?_⟩
  · cases i <;> rfl
  · cases i <;> rfl
  · calc step { s with turns := .write 0#2 (encode i) :: s.turns }
        = writeCommand (encode i) s := step_write_next (encode i) hwf
      _ = exec i s := writeCommand_command hb (decode_encode i)
      _ = .next (accept i s) := exec_idle i s hb

/-- Settles O7: with `BUSY = 0` the write raises the exception; with `BUSY = 1` it is dropped as any
other. -/
theorem illegalWordSetsErrOnly : Obligations.IllegalWordSetsErrOnly := by
  refine fun s w rest hwf ht hd => ⟨fun hb => ?_, fun hb => ?_⟩
  · obtain ⟨r, hr⟩ := Decoded.instr_eq_none_iff.mp hd
    exact (step_writeCommand hwf ht).trans (writeCommand_illegal (s := setTurns rest s) hb hr)
  · exact busyCommandWriteIsDropped s w rest hwf hb ht

end Sys2Proof.Machine

/-! # The generator (spec/40_entropy.md) -/

namespace Sys2Proof.Machine

/-! ### The linear-congruential step (R83) -/

theorem lcg_toNat (x : Half) : (lcg x).toNat = (2053 * x.toNat + 13849) % 65536 :=
  BitVec.toNat_ofNat ..

/-- Settles O26: `lcg` reduces to 16 bits a product that is largest at the largest seed. -/
theorem lcgStepWrapsToSixteenBits : Obligations.LcgStepWrapsToSixteenBits := by
  refine ⟨fun x => ⟨lcg_toNat x, ?_⟩, by decide⟩
  have hx := x.isLt
  omega

/-- R92 (1): 2053 is odd, so equal images modulo 65536 have equal seeds. -/
theorem lcg_injective : Function.Injective lcg := by
  intro x y h
  have h := congrArg BitVec.toNat h
  rw [lcg_toNat, lcg_toNat] at h
  bv_omega

/-! ### The two folds (R84, R86)

The closed forms unfold `Half`, so that every shift is written at one type and `ac_rfl` sees the same
terms on both sides. -/

/-- Two rounds by `k` are one round by `2k`: the two middle terms cancel. -/
theorem foldRound_foldRound (k : Nat) (t : Half) :
    foldRound k (foldRound k t) = foldRound (2 * k) t := by
  simp only [foldRound, BitVec.ushiftRight_xor_distrib, ← BitVec.shiftRight_add, two_mul]
  rw [BitVec.xor_assoc, ← BitVec.xor_assoc (t >>> k), BitVec.xor_self, BitVec.zero_xor]

theorem foldRound_of_width_le {k : Nat} (hk : 16 ≤ k) (t : Half) : foldRound k t = t := by
  rw [foldRound, BitVec.ushiftRight_eq_zero hk, BitVec.xor_zero]

theorem foldRound_injective_of_double {k : Nat} (h : Function.Injective (foldRound (2 * k))) :
    Function.Injective (foldRound k) :=
  Function.Injective.of_comp (f := foldRound k) fun _ _ hxy =>
    h (by simpa only [Function.comp_apply, foldRound_foldRound] using hxy)

theorem foldRound_eight_injective : Function.Injective (foldRound 8) :=
  foldRound_injective_of_double fun x y h => by
    rwa [foldRound_of_width_le le_rfl, foldRound_of_width_le le_rfl] at h

theorem foldRound_four_injective : Function.Injective (foldRound 4) :=
  foldRound_injective_of_double foldRound_eight_injective

theorem foldRound_two_injective : Function.Injective (foldRound 2) :=
  foldRound_injective_of_double foldRound_four_injective

/-- R92 (2): its three rounds are injective. -/
theorem channelFold_injective : Function.Injective channelFold :=
  foldRound_two_injective.comp (foldRound_four_injective.comp foldRound_eight_injective)

/-- R86: the first of the three rounds changes nothing. -/
theorem rangeFold_eq (x : Half) : rangeFold x = foldRound 4 (foldRound 8 x) := by
  rw [rangeFold, foldRound_of_width_le le_rfl]

/-- R92 (2): so are the two rounds that change anything. -/
theorem rangeFold_injective : Function.Injective rangeFold := by
  rw [funext rangeFold_eq]
  exact foldRound_four_injective.comp foldRound_eight_injective

/-- Settles O31: an injection of a finite type into itself is a bijection, and it takes a value only
where one seed is seen to give it. -/
theorem mixingLosesNoSeed : Obligations.MixingLosesNoSeed := by
  have hmix : Function.Injective (fun x => rangeFold (lcg x)) :=
    rangeFold_injective.comp lcg_injective
  have hones : rangeFold (lcg 0xF9FB) = 0xFFFF := by decide
  have hzero : rangeFold (lcg 0xC9FB) = 0x0000 := by decide
  exact ⟨lcg_injective.bijective_of_finite, channelFold_injective.bijective_of_finite,
    rangeFold_injective.bijective_of_finite,
    fun _ => hones ▸ hmix.eq_iff, fun _ => hzero ▸ hmix.eq_iff⟩

theorem channelFold_eq (x : Half) :
    channelFold x = x ^^^ (x >>> 2) ^^^ (x >>> 4) ^^^ (x >>> 6) ^^^ (x >>> 8) ^^^ (x >>> 10) ^^^
      (x >>> 12) ^^^ (x >>> 14) := by
  simp only [Half, channelFold, foldRound, BitVec.ushiftRight_xor_distrib,
    ← BitVec.shiftRight_add, Nat.reduceAdd]
  ac_rfl

/-- R85: bit `j` of the channel fold is the parity of every second bit of the seed from `j` up. -/
theorem channelFold_getLsbD (x : Half) (j : Nat) :
    (channelFold x).getLsbD j =
      (List.range 8).foldl (fun p k => p ^^ x.getLsbD (2 * k + j)) false := by
  simp [channelFold_eq, List.range_succ]

theorem channelOf_getLsbD (tmp : Half) {j : Nat} (hj : j < 2) :
    (channelOf tmp).getLsbD j = tmp.getLsbD j := by
  simp [channelOf, hj]

theorem channelOf_toNat (tmp : Half) : (channelOf tmp).toNat = tmp.toNat % 4 := by
  simp [channelOf]

/-- Settles O27: the closed form, and the parities bit by bit from it. -/
theorem channelIsTheParityOfSeedBits : Obligations.ChannelIsTheParityOfSeedBits := by
  refine ⟨fun x => ⟨⟨_, _, rfl, rfl, rfl⟩, channelFold_eq x, channelOf_toNat x, ?_, ?_⟩, by decide⟩
  · rw [channelOf_getLsbD _ (by decide), channelFold_getLsbD]
    rfl
  · rw [channelOf_getLsbD _ (by decide), channelFold_getLsbD]

/-- Settles O28: the rounds by 8 and 4, expanded. -/
theorem rangeFoldClosedForm : Obligations.RangeFoldClosedForm := by
  refine ⟨fun x => ⟨⟨_, _, rfl, rfl, rfl⟩, foldRound_of_width_le le_rfl x, ?_⟩, by decide⟩
  simp only [Half, rangeFold_eq, foldRound, BitVec.ushiftRight_xor_distrib,
    ← BitVec.shiftRight_add, Nat.reduceAdd]
  ac_rfl

/-! ### The range scaling (R87) -/

theorem scale_toNat (r x : Half) : (scale r x).toNat = r.toNat * x.toNat / 65535 := by
  rw [scale, BitVec.toNat_ofNat, Nat.mod_eq_of_lt (scaled_product_lt r x), scaleDiv]

theorem scale_ones (r : Half) : scale r 65535 = r := by
  apply BitVec.eq_of_toNat_eq
  rw [scale_toNat]
  exact Nat.mul_div_cancel r.toNat (by decide)

theorem scale_comm (r x : Half) : scale r x = scale x r := by
  rw [scale, scale, Nat.mul_comm]

theorem scale_zero (r : Half) : scale r 0 = 0 := by
  simp [scale]

theorem zero_scale (x : Half) : scale 0 x = 0 := by
  rw [scale_comm, scale_zero]

/-- R87: below the largest `TMP` the result is below the range. -/
theorem scale_lt {r x : Half} (hx : x ≠ 65535) (hr : 1 ≤ r.toNat) :
    (scale r x).toNat < r.toNat := by
  have hx : x.toNat < 65535 := by bv_omega
  rw [scale_toNat]
  exact Nat.div_lt_of_lt_mul (by rw [Nat.mul_comm 65535]; exact Nat.mul_lt_mul_of_pos_left hx hr)

/-- Settles O29: the scaling as a floor, and the corner cases from where it reaches the range. -/
theorem rangeScalingIsTheExactFloor : Obligations.RangeScalingIsTheExactFloor := by
  refine ⟨fun r x => ⟨?_, scale_toNat r x ▸ scale_le r x, scale_toNat r x, zero_scale x,
    scale_zero r, scale_ones r, ?_, fun hx => ?_, fun hx hr => ?_⟩, by decide⟩
  · calc r.toNat * x.toNat < 2 ^ 16 * 2 ^ 16 := Nat.mul_lt_mul'' r.isLt x.isLt
      _ = 2 ^ 32 := by decide
  · rw [scale_comm, scale_ones]
  · have hlt := scale_lt (r := 1) hx (by decide)
    bv_omega
  · exact Nat.le_sub_one_of_lt (scale_lt hx hr)

/-- Settles O30: outside the two cases the result is strictly below the range. -/
theorem rangeResultStaysWithinTheRange : Obligations.RangeResultStaysWithinTheRange := by
  refine fun r x => ⟨scale_le r x, fun h => ?_, ?_⟩
  · by_contra! hne
    obtain ⟨hr, hx⟩ := hne
    have hlt := scale_lt (r := r) hx (by bv_omega)
    rw [h] at hlt
    exact lt_irrefl _ hlt
  · rintro (rfl | rfl)
    · exact zero_scale x
    · exact scale_ones r

/-! ### One step of a random request (R81, R82) -/

section
variable {i : Instr} {s : State}

theorem sampleStep_draw (hd : s.cfg.seedInit = .draw) : sampleStep .seedInit s = drawSeed s := by
  simp only [sampleStep, hd]

theorem sampleStep_zero (hz : s.cfg.seedInit = .zero) : sampleStep .seedInit s = zeroSeed s := by
  simp only [sampleStep, hz]

theorem sampleStep_accumulate (hlt : s.scnt.toNat < 25) :
    sampleStep .accumulate s = accumulateSample s := by
  have hne : s.scnt ≠ nSamples := by simp only [nSamples]; bv_omega
  exact if_neg hne

theorem zeroSeed_eq (s : State) :
    zeroSeed s = { adcSample s with seed := sampleNow s, scnt := 1, ph := .sample .accumulate } := by
  rw [zeroSeed, accumulateSample_eq, BitVec.zero_xor]
  rfl

/-- The counter does not wrap before the 25th sample. -/
theorem scnt_succ_eq_nSamples_iff (hlt : s.scnt.toNat < 25) :
    s.scnt + 1#5 = nSamples ↔ s.scnt.toNat + 1 = 25 := by
  simp only [nSamples]
  bv_omega

/-- A step in `SAMPLE` writes the seed and its counter, the phase, and what its primitive uses up. -/
theorem sampleStep_eq (a : SampleAt) (s : State) :
    ∃ x n p vs ds k es, sampleStep a s = { s with
      seed := x, scnt := n, ph := p, samples := vs, draws := ds, fresh := k, trace := es } := by
  unfold sampleStep
  split
  · split
    · exact ⟨_, _, _, _, _, _, _, rfl⟩
    · rw [zeroSeed_eq]
      exact ⟨_, _, _, _, _, _, _, rfl⟩
  · split
    · exact ⟨_, _, _, _, _, _, _, rfl⟩
    · rw [accumulateSample_eq]
      exact ⟨_, _, _, _, _, _, _, rfl⟩

end

/-- Settles O32: the commands share `sampleStep`, which draws, starts from 0 or takes a sample. -/
theorem randomRequestTakesOneSampleAStep : Obligations.RandomRequestTakesOneSampleAStep := by
  intro i s hi hb
  refine ⟨fun hp hd => ?_, fun hp hz => ?_, fun hp hlt => ?_⟩
  · rw [exec_of_primitive hb (.sample i _ hi hp), sampleStep_draw hd]
    rfl
  · rw [exec_of_primitive hb (.sample i _ hi hp), sampleStep_zero hz, zeroSeed_eq]
    rfl
  · rw [exec_of_primitive hb (.sample i _ hi hp), sampleStep_accumulate hlt, accumulateSample_eq,
      if_congr (scnt_succ_eq_nSamples_iff hlt) rfl rfl]
    rfl

/-- Settles O33: `MIX` is the last primitive of both commands. -/
theorem randomCommandsCompleteInMix : Obligations.RandomCommandsCompleteInMix := by
  refine fun r s hb hp => ⟨?_, ?_⟩
  · simp only [exec_of_primitive hb (.finishChannel hp), finishChannel, mixChannel, complete]
  · simp only [exec_of_primitive hb (.finishRange r hp), finishRange, mixRange, complete]

/-- Settles O36: each step of the two commands is an accept, a step in `SAMPLE`, or the completion in
`MIX`, and none of these writes more than it names. -/
theorem randomCommandsLeaveTheRestAlone : Obligations.RandomCommandsLeaveTheRestAlone := by
  intro i s t hi h
  obtain ⟨-, rfl⟩ | ⟨hb, hprim⟩ := exec_next h
  · simp
  cases hprim with
  | sample i a _ hp =>
    obtain ⟨x, n, p, vs, ds, k, es, h⟩ := sampleStep_eq a s
    simp [h, hb]
  | finishChannel hp =>
    obtain ⟨x, y, h⟩ := mixChannel_eq s
    simp [h, finishChannel, hb, hp]
  | finishRange r hp =>
    obtain ⟨x, y, h⟩ := mixRange_eq s
    simp [h, finishRange, hb, hp]
  | _ => simp at hi

/-! ### A whole random request -/

/-- The state of a request that began in `s`, after R81 and `n` samples of R82. -/
def sampled (s : State) (n : Nat) : State :=
  { s with
    seed := accumulated s n
    scnt := BitVec.ofNat 5 n
    ph := if n = 25 then .mix else .sample .accumulate
    samples := s.samples.drop n
    draws := drawsAfter s
    fresh := s.fresh + seedQuestions s + n
    trace := s.trace ++ (seedEvents s ++ (List.range n).map fun k => .adc (sampleAhead s k)) }

section
variable {i : Instr} {s t : State} {n : Nat}

theorem accumulated_succ (s : State) (n : Nat) :
    accumulated s (n + 1) = accumulated s n ^^^ sampleAhead s n := by
  simp [accumulated, List.range_succ]

/-- The counter's 5 bits hold the number of samples taken. -/
theorem sampled_scnt_toNat (s : State) (hn : n < 25) : (sampled s n).scnt.toNat = n :=
  Nat.mod_eq_of_lt (by omega)

/-- The next sample of a request that has taken `n` is its sample number `n`. -/
theorem sampleNow_sampled (s : State) (n : Nat) : sampleNow (sampled s n) = sampleAhead s n := by
  simp [sampleNow, sampleAhead, sampled, List.headD_eq_head?_getD, List.head?_drop]

theorem accumulateSample_sampled (hn : n < 25) :
    accumulateSample (sampled s n) = sampled s (n + 1) := by
  have hscnt := sampled_scnt_toNat s hn
  have hph := scnt_succ_eq_nSamples_iff (s := sampled s n) (by omega)
  rw [accumulateSample_eq, adcSample, sampleNow_sampled, if_congr hph rfl rfl, hscnt]
  simp [sampled, emit, accumulated_succ, List.range_succ, BitVec.ofNat_add, Nat.add_assoc]

theorem drawSeed_eq_sampled (hd : s.cfg.seedInit = .draw) : drawSeed s = sampled s 0 := by
  simp [drawSeed, draw16, emit, sampled, accumulated, initialSeed, drawsAfter, seedQuestions,
    seedEvents, hd]

/-- Without a draw the first sample is taken in the step that clears the seed (log 1). -/
theorem zeroSeed_eq_sampled (hz : s.cfg.seedInit = .zero) : zeroSeed s = sampled s 1 := by
  have hstart : sampled s 0 = { s with seed := 0#16, scnt := 0#5, ph := .sample .accumulate } := by
    simp [sampled, accumulated, initialSeed, drawsAfter, seedQuestions, seedEvents, hz]
  rw [← accumulateSample_sampled (by decide), hstart, zeroSeed, accumulateSample_eq,
    accumulateSample_eq]
  rfl

theorem runCommand_one (i : Instr) (s : State) : runCommand i 1 s = exec i s := by
  cases h : exec i s <;> simp only [runCommand, h]

/-- A run of `m` steps and then `k` more. -/
theorem runCommand_add {m : Nat} (h : runCommand i m s = .next t) (k : Nat) :
    runCommand i (m + k) s = runCommand i k t := by
  induction m generalizing s with
  | zero => cases h; rw [Nat.zero_add]
  | succ m ih =>
    rw [Nat.succ_add]
    simp only [runCommand] at h ⊢
    split at h
    · exact ih h
    · cases h
    · cases h

theorem runCommand_snoc {m : Nat} (h : runCommand i m s = .next t) :
    runCommand i (m + 1) s = exec i t := by
  rw [runCommand_add h, runCommand_one]

section
variable (hi : i = .rndch ∨ (∃ r, i = .rndrg r) ∨ ∃ b, i = .round b) (hb : s.busy = true)
include hi hb

theorem exec_sampled (hn : n < 25) : exec i (sampled s n) = .next (sampled s (n + 1)) := by
  have hp : (sampled s n).ph = .sample .accumulate := if_neg hn.ne
  have hscnt := sampled_scnt_toNat s hn
  rw [exec_of_primitive (s := sampled s n) hb (.sample i _ hi hp),
    sampleStep_accumulate (by omega), accumulateSample_sampled hn]

/-- R81, R82: after the step of the draw, where there is one, each step takes one sample. -/
theorem runCommand_sampled (hp : s.ph = .sample .seedInit) (hn : 1 ≤ n) (hn' : n ≤ 25) :
    runCommand i (seedQuestions s + n) s = .next (sampled s n) := by
  have hfirst := exec_of_primitive hb (.sample i _ hi hp)
  induction n, hn using Nat.le_induction with
  | base =>
    cases hmode : s.cfg.seedInit with
    | draw =>
      rw [sampleStep_draw hmode, drawSeed_eq_sampled hmode, ← runCommand_one] at hfirst
      rw [seedQuestions, hmode, runCommand_snoc hfirst]
      exact exec_sampled hi hb (by decide)
    | zero =>
      rw [sampleStep_zero hmode, zeroSeed_eq_sampled hmode] at hfirst
      rw [seedQuestions, hmode, Nat.zero_add, runCommand_one, hfirst]
  | succ n _ ih =>
    rw [← Nat.add_assoc, runCommand_snoc (ih (by omega))]
    exact exec_sampled hi hb (by omega)

end

/-- R80: a random request from its accept to `MIX`. -/
theorem runCommand_to_mix (hi : i = .rndch ∨ (∃ r, i = .rndrg r) ∨ ∃ b, i = .round b)
    (hb : s.busy = false) :
    runCommand i (seedQuestions s + 26) s = .next (sampled (accept i s) 25) := by
  have haccept : runCommand i 1 s = .next (accept i s) := by rw [runCommand_one, exec_idle i s hb]
  have hp : (accept i s).ph = .sample .seedInit := by
    obtain rfl | ⟨r, rfl⟩ | ⟨b, rfl⟩ := hi <;> rfl
  calc runCommand i (seedQuestions s + 26) s
      = runCommand i (1 + (seedQuestions s + 25)) s := by rw [Nat.add_comm 1]
    _ = runCommand i (seedQuestions (accept i s) + 25) (accept i s) := runCommand_add haccept _
    _ = .next (sampled (accept i s) 25) :=
        runCommand_sampled hi rfl hp (by decide) le_rfl

end

/-- Settles O34: the request to `MIX`, and the completion there. -/
theorem rndchRunsFromAcceptToCompletion : Obligations.RndchRunsFromAcceptToCompletion := by
  intro s hb
  obtain ⟨hmix, -⟩ := randomCommandsCompleteInMix 0 (sampled (accept .rndch s) 25) rfl rfl
  exact (runCommand_snoc (runCommand_to_mix (.inl rfl) hb)).trans hmix

/-- Settles O35: as `RNDCH`, with the range that accept put into `ARG`. -/
theorem rndrgRunsFromAcceptToCompletion : Obligations.RndrgRunsFromAcceptToCompletion := by
  intro r s hb
  obtain ⟨-, hmix⟩ := randomCommandsCompleteInMix r (sampled (accept (.rndrg r) s) 25) rfl rfl
  exact (runCommand_snoc (runCommand_to_mix (.inr (.inl ⟨r, rfl⟩)) hb)).trans hmix

end Sys2Proof.Machine

/-! # The round (spec/41_round.md) -/

namespace Sys2Proof.Machine

/-! ### One step of a round -/

section
variable {s : State}

/-- With no tick counted, a core turn at a `Delay` appends its event and moves nothing else. -/
theorem delay_of_dly_zero (n : Nat) (h0 : s.dly = 0#10) :
    delay n s = { s with trace := s.trace ++ [.delay n] } := by
  rw [delay, if_pos h0, ← h0]

theorem leaveAwait_of_unpressed (h : s.btn = 0b0000#4) :
    leaveAwait s = { s with ph := .resFail } := by
  simp [leaveAwait, decideOutcome, waitsForRelease, resolvedPhase, h]

theorem leaveAwait_of_hit (h : s.btn ≠ 0b0000#4) (hkey : lsbIndex s.btn = s.key) :
    leaveAwait s = { s with ph := .relWait .hit } := by
  simp [leaveAwait, decideOutcome, waitsForRelease, h, hkey]

theorem leaveAwait_of_miss (h : s.btn ≠ 0b0000#4) (hkey : lsbIndex s.btn ≠ s.key) :
    leaveAwait s =
      { s with ph := if s.cfg.relWaitMiss then .relWait .fail else .resFail } := by
  cases hwait : s.cfg.relWaitMiss <;>
    simp [leaveAwait, decideOutcome, waitsForRelease, resolvedPhase, h, hkey, hwait]

end

/-- The phase after a poll of R105 that read `v` (R105, R106, R108). -/
def pollPhase (v : Pads) (key : Channel) (relWaitMiss : Bool) : Phase :=
  if v = 0b0000#4 then .await .wait
  else if lsbIndex v = key then .relWait .hit
  else if relWaitMiss then .relWait .fail
  else .resFail

section
variable {v : Pads} {key : Channel} {relWaitMiss : Bool}

theorem pollPhase_of_unpressed (h : v = 0b0000#4) : pollPhase v key relWaitMiss = .await .wait :=
  if_pos h

theorem pollPhase_of_hit (h : v ≠ 0b0000#4) (hkey : lsbIndex v = key) :
    pollPhase v key relWaitMiss = .relWait .hit := by
  rw [pollPhase, if_neg h, if_pos hkey]

theorem pollPhase_of_miss (h : v ≠ 0b0000#4) (hkey : lsbIndex v ≠ key) :
    pollPhase v key relWaitMiss = if relWaitMiss then .relWait .fail else .resFail := by
  rw [pollPhase, if_neg h, if_neg hkey]

theorem pollPhase_of_wait (h : v ≠ 0b0000#4) (hwait : lsbIndex v = key ∨ relWaitMiss = true) :
    pollPhase v key relWaitMiss = .relWait (if lsbIndex v = key then .hit else .fail) := by
  by_cases hkey : lsbIndex v = key
  · rw [pollPhase_of_hit h hkey, if_pos hkey]
  · rw [pollPhase_of_miss h hkey, if_pos (hwait.resolve_left hkey), if_neg hkey]

end

theorem poll_eq_pollPhase (s : State) :
    poll s = { pinReadAll s with
      btn := pressedNow s, ph := pollPhase (pressedNow s) s.key s.cfg.relWaitMiss } := by
  by_cases h : pressedNow s = 0b0000#4
  · rw [pollPhase_of_unpressed h]
    exact if_pos h
  have hpoll : poll s = leaveAwait { pinReadAll s with btn := pressedNow s } := if_neg h
  by_cases hkey : lsbIndex (pressedNow s) = s.key
  · rw [pollPhase_of_hit h hkey, hpoll, leaveAwait_of_hit h hkey]
  · rw [pollPhase_of_miss h hkey, hpoll, leaveAwait_of_miss h hkey]
    rfl

theorem awaitStep_test_of_zero {s : State} (hcnt : s.cnt = 0#16) :
    awaitStep .test s = leaveAwait s :=
  if_pos hcnt

theorem awaitStep_test_of_ne_zero {s : State} (hcnt : s.cnt ≠ 0#16) :
    awaitStep .test s = { pinReadAll s with
      btn := pressedNow s, ph := pollPhase (pressedNow s) s.key s.cfg.relWaitMiss } :=
  (if_neg hcnt).trans (poll_eq_pollPhase s)

/-- Settles O37: each of the four primitives in turn. -/
theorem roundShowsItsKey : Obligations.RoundShowsItsKey := by
  refine fun b s hb => ⟨fun hp => ?_, fun hp => ?_, fun hp h0 => ?_, fun hp => ?_⟩
  · rw [exec_of_primitive hb (.enterShow b hp), enterShow, mixChannel]
    rfl
  · exact exec_of_primitive hb (.showTarget b .assert hp)
  · rw [exec_of_primitive hb (.showTarget b .hold hp), showStep, delay_of_dly_zero tShow h0]
    rfl
  · exact exec_of_primitive hb (.showTarget b .deassert hp)

/-- Settles O38: the last place of `SHOW` is the entry of `AWAIT`. -/
theorem awaitInputLoadsTheCountdown : Obligations.AwaitInputLoadsTheCountdown :=
  fun b _ hb hp => exec_of_primitive hb (.showTarget b .leave hp)

/-- Settles O39: the loop's test fails at `CNT = 0`; else the poll goes on to its `pollPhase`. -/
theorem pollLoopDecidesTheOutcome : Obligations.PollLoopDecidesTheOutcome := by
  refine fun b s hb => ⟨fun hp hcnt hbtn => ?_, fun hp hcnt => ?_, fun hp h0 => ?_⟩
  · rw [exec_of_primitive hb (.await b .test hp), awaitStep_test_of_zero hcnt,
      leaveAwait_of_unpressed hbtn]
  · refine ⟨pollPhase (pressedNow s) s.key s.cfg.relWaitMiss, ?_, pollPhase_of_unpressed,
      pollPhase_of_hit, fun h hkey hwait => ?_, fun h hkey hwait => ?_⟩
    · rw [exec_of_primitive hb (.await b .test hp), awaitStep_test_of_ne_zero hcnt]
      rfl
    · rw [pollPhase_of_miss h hkey, if_pos hwait]
    · rw [pollPhase_of_miss h hkey, hwait]
      rfl
  · rw [exec_of_primitive hb (.await b .wait hp), awaitStep, delay_of_dly_zero tPoll h0]
    rfl

/-- Settles O40: the table evaluated. -/
theorem lowestPressedButtonTable : Obligations.LowestPressedButtonTable := by
  unfold Obligations.LowestPressedButtonTable
  decide

/-- Settles O41: the poll keeps the phase, which holds the outcome, until it reads no button. -/
theorem releaseWaitEndsOnlyWhenAllAreUp : Obligations.ReleaseWaitEndsOnlyWhenAllAreUp := by
  intro b s o hb hp
  rw [exec_of_primitive hb (.relWait b o hp), releaseStep_eq, hp]
  cases o <;> rfl

/-- Settles O42: both phases complete. -/
theorem roundResolvesAndCompletes : Obligations.RoundResolvesAndCompletes :=
  fun b _ hb => ⟨fun hp => exec_of_primitive hb (.resHit b hp),
    fun hp => exec_of_primitive hb (.resFail b hp)⟩

/-- A step in `AWAIT` writes the countdown, the pressed vector, the phase, a delay's counter, and what
its primitive uses up. -/
theorem awaitStep_eq (a : AwaitAt) (s : State) :
    ∃ n v p d ps k es, awaitStep a s = { s with
        cnt := n, btn := v, ph := p, dly := d, pads := ps, fresh := k, trace := es } ∧
      ((Phase.await a).delayAt = none → d = s.dly) := by
  cases a with
  | wait => exact ⟨_, _, _, _, _, _, _, rfl, by simp [Phase.delayAt]⟩
  | test =>
    by_cases hcnt : s.cnt = 0#16
    · obtain ⟨p, -, h⟩ := leaveAwait_eq s
      exact ⟨_, _, _, _, _, _, _, (awaitStep_test_of_zero hcnt).trans h, fun _ => rfl⟩
    · exact ⟨_, _, _, _, _, _, _, awaitStep_test_of_ne_zero hcnt, fun _ => rfl⟩

/-- Settles O47: what each primitive of the round names, phase by phase. -/
theorem roundLeavesTheRestAlone : Obligations.RoundLeavesTheRestAlone := by
  intro b s t h
  obtain ⟨hb, rfl⟩ | ⟨hb, hprim⟩ := exec_next h
  · simp
  cases hprim with
  | sample _ a hi hp =>
    obtain ⟨x, n, p, vs, ds, k, es, h⟩ := sampleStep_eq a s
    simp [h, hb, hp, Phase.code]
  | enterShow _ hp =>
    obtain ⟨x, y, h⟩ := mixChannel_eq s
    simp [h, enterShow, hb, hp]
  | showTarget _ a hp =>
    cases a <;> simp [showStep, enterAwait, hb, hp, Phase.code, Phase.delayAt]
  | await _ a hp =>
    obtain ⟨n, v, p, d, ps, k, es, h, hd⟩ := awaitStep_eq a s
    simpa [h, hb, hp, Phase.code] using hd
  | relWait _ o hp => simp [releaseStep_eq, hb, hp, Phase.code]
  | resHit _ hp => simp [hb]
  | resFail _ hp => simp [hb]

/-! ### The environment's answers (R44) -/

section
variable {s t : State} {asked k : Nat} (hpads : t.pads = s.pads.drop k)
  (hfresh : t.fresh = s.fresh + asked + k)
include hpads hfresh

/-- After `k` polls and `asked` other questions the polls go on with number `k`. -/
theorem pressedAfter_of_drop (j : Nat) : pressedAfter 0 t j = pressedAfter asked s (k + j) := by
  simp only [pressedAfter, hpads, hfresh, List.getElem?_drop, Nat.add_zero, Nat.add_assoc]

theorem pressedNow_of_drop : pressedNow t = pressedAfter asked s k := by
  have hnow : pressedNow t = pressedAfter 0 t 0 := by
    simp [pressedNow, pressedAfter, List.headD_eq_head?_getD, List.head?_eq_getElem?]
  rw [hnow, pressedAfter_of_drop hpads hfresh, Nat.add_zero]

end

/-! ### The release wait (R108) -/

/-- `s` after `n` polls, the last of which left `v` in `BTN`. -/
def afterPolls (s : State) (n : Nat) (v : Pads) : State :=
  { s with
    btn := v
    pads := s.pads.drop n
    fresh := s.fresh + n
    trace := s.trace ++ (List.range n).map fun j => .btn (pressedAfter 0 s j) }

section
variable {b : Half} {s : State} {o : RoundOutcome} {n : Nat} (hb : s.busy = true)
  (hp : s.ph = .relWait o)
include hb hp

theorem exec_afterPolls (v : Pads) :
    exec (.round b) (afterPolls s n v) = .next { afterPolls s (n + 1) (pressedAfter 0 s n) with
      ph := if pressedAfter 0 s n = 0b0000#4 then resolvedPhase o else .relWait o } := by
  have hnow : pressedNow (afterPolls s n v) = pressedAfter 0 s n := pressedNow_of_drop rfl rfl
  rw [exec_of_primitive (s := afterPolls s n v) hb (.relWait b o hp), releaseStep_eq, pinReadAll,
    hnow]
  simp [afterPolls, emit, hp, List.range_succ, Nat.add_assoc]

/-- R108: a poll that sees a button down changes nothing but `BTN` and what it uses up. -/
theorem runCommand_relWait (hdown : ∀ j, j < n → pressedAfter 0 s j ≠ 0b0000#4) :
    ∃ v, runCommand (.round b) n s = .next (afterPolls s n v) := by
  induction n with
  | zero => exact ⟨s.btn, by simp [runCommand, afterPolls]⟩
  | succ n ih =>
    obtain ⟨v, hrun⟩ := ih fun j hj => hdown j (by omega)
    refine ⟨pressedAfter 0 s n, ?_⟩
    rw [runCommand_snoc hrun, exec_afterPolls hb hp, if_neg (hdown n n.lt_succ_self)]
    simp only [afterPolls, hp]

/-- R108, R109: the wait ends with the first poll that sees no button. -/
theorem runCommand_release (hdown : ∀ j, j < n → pressedAfter 0 s j ≠ 0b0000#4)
    (hup : pressedAfter 0 s n = 0b0000#4) :
    runCommand (.round b) (n + 1) s =
      .next { afterPolls s (n + 1) 0b0000#4 with ph := resolvedPhase o } := by
  obtain ⟨v, hrun⟩ := runCommand_relWait (b := b) hb hp hdown
  rw [runCommand_snoc hrun, exec_afterPolls hb hp, if_pos hup, hup]

end

/-- Settles O46: the polls of the wait leave the phase and the flags alone. -/
theorem releaseWaitHangsWhileAButtonIsDown : Obligations.ReleaseWaitHangsWhileAButtonIsDown := by
  intro b s o n hb hp hdown
  obtain ⟨v, hrun⟩ := runCommand_relWait (b := b) hb hp hdown
  exact ⟨afterPolls s n v, hrun, hp, hb, rfl, rfl⟩

/-! ### A whole round to its first press (R100 to R105) -/

theorem exec_showTarget {b : Half} {s : State} {a : ShowAt} (hb : s.busy = true)
    (hp : s.ph = .showTarget a) : exec (.round b) s = .next (showStep a s) :=
  exec_of_primitive hb (.showTarget b a hp)

/-- R102 to R104: from the lit key to the loop's test. -/
theorem runCommand_showTarget {b : Half} {s : State} (hb : s.busy = true)
    (hp : s.ph = .showTarget .assert) (h0 : s.dly = 0#10) :
    runCommand (.round b) 4 s = .next { s with
      mode := 0b0000#4, led := 0b0000#4, cnt := s.arg, btn := 0b0000#4, ph := .await .test
      trace := s.trace ++ [.led s.key true, .delay 50, .ledAll 0b0000, .modeAll .input] } := by
  have hassert := (runCommand_one (.round b) s).trans (exec_showTarget hb hp)
  have hhold := (runCommand_snoc hassert).trans (exec_showTarget hb rfl)
  have hdark := (runCommand_snoc hhold).trans (exec_showTarget hb rfl)
  refine ((runCommand_snoc hdark).trans (exec_showTarget hb rfl)).trans ?_
  simp [showStep, enterAwait, pinModeAll, pinWrite, pinWriteAll, delay, emit, modeBits, tShow, h0]

/-- R101 to R104: from `MIX` to the loop's test. -/
theorem runCommand_show (b : Half) {s : State} (hb : s.busy = true) (hp : s.ph = .mix)
    (h0 : s.dly = 0#10) :
    runCommand (.round b) 5 s = .next { s with
      seed := lcg s.seed, tmp := channelFold (lcg s.seed)
      key := channelOf (channelFold (lcg s.seed))
      mode := 0b0000#4, led := 0b0000#4, cnt := s.arg, btn := 0b0000#4, ph := .await .test
      trace := s.trace ++ showEvents (channelOf (channelFold (lcg s.seed))) } := by
  obtain ⟨hmix, -⟩ := roundShowsItsKey b s hb
  have hfirst := (runCommand_one (.round b) s).trans (hmix hp)
  have hshow := (runCommand_add hfirst 4).trans (runCommand_showTarget hb rfl h0)
  rw [List.append_assoc] at hshow
  exact hshow

/-- The key the round that starts in `s` draws (R101). -/
def drawnKey (s : State) : Channel := channelOf (channelFold (lcg (accumulated s 25)))

theorem channelOf_eq_drawnKey (s : State) :
    channelOf (channelFold (lcg (accumulated s 25))) = drawnKey s := rfl

/-- The round with the budget `b` that starts in `s`, at the loop's test after `k` empty polls. -/
def atPoll (b : Half) (s : State) (k : Nat) : State :=
  { s with
    op := 3#4, arg := b, scnt := 25#5
    seed := lcg (accumulated s 25), tmp := channelFold (lcg (accumulated s 25)), key := drawnKey s
    cnt := BitVec.ofNat 16 (b.toNat - k), btn := 0b0000#4, mode := 0b0000#4, led := 0b0000#4
    result := 0#16, hit := false, done := false, busy := true, ph := .await .test
    samples := s.samples.drop 25, draws := drawsAfter s, pads := s.pads.drop k
    fresh := s.fresh + seedQuestions s + 25 + k
    trace := s.trace ++ requestEvents s ++ showEvents (drawnKey s) ++
      times k [.btn 0b0000, .delay 1] }

/-- `atPoll b s k` after poll number `k`, which went on to the phase `p`. -/
def polledAt (b : Half) (s : State) (k : Nat) (p : Phase) : State :=
  { atPoll b s k with
    btn := pressedAhead s k, ph := p, pads := s.pads.drop (k + 1)
    fresh := s.fresh + seedQuestions s + 25 + (k + 1)
    trace := (atPoll b s k).trace ++ [.btn (pressedAhead s k)] }

theorem times_zero (es : List Event) : times 0 es = [] := rfl

theorem times_succ (n : Nat) (es : List Event) : times (n + 1) es = times n es ++ es := by
  simp [times, List.replicate_succ']

section
variable {b : Half} {s : State} {k : Nat}

theorem pressedNow_atPoll : pressedNow (atPoll b s k) = pressedAhead s k :=
  pressedNow_of_drop rfl (by simp [atPoll, Nat.add_assoc])

theorem atPoll_cnt_ne_zero (hk : k < b.toNat) : (atPoll b s k).cnt ≠ 0#16 := by
  simp only [atPoll]
  bv_omega

theorem exec_atPoll (hk : k < b.toNat) :
    exec (.round b) (atPoll b s k) =
      .next (polledAt b s k (pollPhase (pressedAhead s k) (drawnKey s) s.cfg.relWaitMiss)) := by
  rw [exec_of_primitive (s := atPoll b s k) rfl (.await b .test rfl),
    awaitStep_test_of_ne_zero (atPoll_cnt_ne_zero hk), pinReadAll, pressedNow_atPoll]
  simp [polledAt, atPoll, emit, Nat.add_assoc]

theorem exec_polledAt_wait (hk : k < b.toNat) (h0 : s.dly = 0#10)
    (hempty : pressedAhead s k = 0b0000#4) :
    exec (.round b) (polledAt b s k (.await .wait)) = .next (atPoll b s (k + 1)) := by
  obtain ⟨-, -, hwait⟩ := pollLoopDecidesTheOutcome b (polledAt b s k (.await .wait)) rfl
  have hcnt : BitVec.ofNat 16 (b.toNat - k) - 1#16 = BitVec.ofNat 16 (b.toNat - (k + 1)) := by
    bv_omega
  rw [hwait rfl h0]
  simp [polledAt, atPoll, hempty, times_succ, hcnt]

/-- R80, R101 to R104: from accept to the loop's first test. -/
theorem runCommand_to_await (hb : s.busy = false) (h0 : s.dly = 0#10) :
    runCommand (.round b) (seedQuestions s + 31) s = .next (atPoll b s 0) := by
  rw [runCommand_add (runCommand_to_mix (.inr (.inr ⟨b, rfl⟩)) hb) 5,
    runCommand_show b (s := sampled (accept (.round b) s) 25) rfl rfl h0]
  simp only [atPoll, times_zero, List.append_nil, Nat.sub_zero, BitVec.ofNat_toNat,
    BitVec.setWidth_eq]
  rfl

/-- R105: from accept to the loop's test after `k` empty polls. -/
theorem runCommand_to_atPoll (hb : s.busy = false) (h0 : s.dly = 0#10) (hk : k ≤ b.toNat)
    (hempty : ∀ j, j < k → pressedAhead s j = 0b0000#4) :
    runCommand (.round b) (seedQuestions s + 31 + 2 * k) s = .next (atPoll b s k) := by
  induction k with
  | zero => exact runCommand_to_await hb h0
  | succ k ih =>
    have hnow := hempty k k.lt_succ_self
    have hpoll := runCommand_snoc (ih (by omega) fun j hj => hempty j (by omega))
    rw [exec_atPoll hk, pollPhase_of_unpressed hnow] at hpoll
    exact (runCommand_snoc hpoll).trans (exec_polledAt_wait hk h0 hnow)

/-- R105, R106: from accept to the phase that poll number `k` decides. -/
theorem runCommand_to_polledAt (hb : s.busy = false) (h0 : s.dly = 0#10) (hk : k < b.toNat)
    (hempty : ∀ j, j < k → pressedAhead s j = 0b0000#4) :
    runCommand (.round b) (seedQuestions s + 31 + 2 * k + 1) s =
      .next (polledAt b s k (pollPhase (pressedAhead s k) (drawnKey s) s.cfg.relWaitMiss)) :=
  (runCommand_snoc (runCommand_to_atPoll hb h0 hk.le hempty)).trans (exec_atPoll hk)

/-- The polls of the release wait that follow poll number `k`. -/
theorem pressedAfter_polledAt (p : Phase) (j : Nat) :
    pressedAfter 0 (polledAt b s k p) j = pressedAhead s (k + 1 + j) :=
  pressedAfter_of_drop rfl (by simp [polledAt, Nat.add_assoc]) j

/-- R108: the events of the wait, to the poll that sees no button. -/
theorem map_btn_polledAt {p : Phase} {m : Nat} (hup : pressedAhead s (k + 1 + m) = 0b0000#4) :
    (List.range (m + 1)).map (fun j => Event.btn (pressedAfter 0 (polledAt b s k p) j)) =
      (List.range m).map (fun j => .btn (pressedAhead s (k + 1 + j))) ++ [.btn 0b0000] := by
  simp [pressedAfter_polledAt, List.range_succ, hup]

end

/-! ### The outcomes (R106, R108, R109) -/

/-- R109, R67: a round whose outcome is resolved completes. -/
theorem exec_resolved (b : Half) {s : State} {o : RoundOutcome} (hb : s.busy = true)
    (hp : s.ph = resolvedPhase o) :
    exec (.round b) s =
      .next (complete (if o = .hit then 1#16 else 0#16) (decide (o = .hit)) s) := by
  cases o with
  | hit => exact exec_of_primitive hb (.resHit b hp)
  | fail => exact exec_of_primitive hb (.resFail b hp)

theorem ite_hit_fail_eq_hit_iff (p : Prop) [Decidable p] :
    (if p then RoundOutcome.hit else .fail) = .hit ↔ p := by
  by_cases hp : p <;> simp [hp]

/-- Settles O43: after `budget` empty polls the loop's test fails. -/
theorem roundWithoutAPressTimesOut : Obligations.RoundWithoutAPressTimesOut := by
  intro b s hb h0 hempty
  have hcnt : BitVec.ofNat 16 (b.toNat - b.toNat) = 0#16 := by rw [Nat.sub_self]
  obtain ⟨hfail, -⟩ := pollLoopDecidesTheOutcome b (atPoll b s b.toNat) rfl
  have htest := (runCommand_snoc (runCommand_to_atPoll hb h0 le_rfl hempty)).trans
    (hfail rfl hcnt rfl)
  have hround := (runCommand_snoc htest).trans (exec_resolved b (o := .fail) rfl rfl)
  have hsteps : seedQuestions s + 33 + 2 * b.toNat =
      seedQuestions s + 31 + 2 * b.toNat + 1 + 1 := by omega
  rw [hsteps, hround]
  simp only [atPoll, hcnt]
  rfl

/-- Settles O44: the poll that sees the press ends the loop, and no wait follows. -/
theorem roundWithAWrongPressMisses : Obligations.RoundWithAWrongPressMisses := by
  intro b s k hb h0 hwait hk hempty hpress hkey
  rw [channelOf_eq_drawnKey] at hkey
  have hphase : pollPhase (pressedAhead s k) (drawnKey s) s.cfg.relWaitMiss = .resFail := by
    rw [pollPhase_of_miss hpress hkey, hwait]
    rfl
  have hpoll := runCommand_to_polledAt hb h0 hk hempty
  rw [hphase] at hpoll
  have hround := (runCommand_snoc hpoll).trans (exec_resolved b (o := .fail) rfl rfl)
  have hsteps : seedQuestions s + 33 + 2 * k = seedQuestions s + 31 + 2 * k + 1 + 1 := by omega
  rw [hsteps, hround]
  rfl

/-- Settles O45: the poll that sees the press decides the outcome, and the release wait keeps it. -/
theorem roundWithAPressWaitsForRelease : Obligations.RoundWithAPressWaitsForRelease := by
  intro b s k m hb h0 hk hempty hpress hwait hdown hup
  simp only [channelOf_eq_drawnKey] at hwait ⊢
  have hpoll := runCommand_to_polledAt hb h0 hk hempty
  rw [pollPhase_of_wait hpress hwait] at hpoll
  have hrelease := (runCommand_add hpoll (m + 1)).trans (runCommand_release rfl rfl
    (fun j hj => (pressedAfter_polledAt _ j).trans_ne (hdown j hj))
    ((pressedAfter_polledAt _ m).trans hup))
  have hround := (runCommand_snoc hrelease).trans (exec_resolved b rfl rfl)
  have hsteps : seedQuestions s + 34 + 2 * k + m =
      seedQuestions s + 31 + 2 * k + 1 + (m + 1) + 1 := by omega
  have hpolls : k + m + 2 = k + 1 + (m + 1) := by omega
  rw [hsteps, hround, hpolls, afterPolls, map_btn_polledAt hup]
  simp only [complete, polledAt, atPoll, ite_hit_fail_eq_hit_iff, List.drop_drop, Nat.add_assoc,
    List.append_assoc]
  rfl

end Sys2Proof.Machine

/-! # The score (spec/42_score.md) -/

namespace Sys2Proof.Machine

/-! ### The digits (R121) -/

theorem hundredsOf_toNat (x : Half) : (hundredsOf x).toNat = x.toNat / 100 := by
  have := x.isLt
  simp only [hundredsOf, BitVec.toNat_ofNat]
  omega

theorem tensOf_toNat (x : Half) : (tensOf x).toNat = x.toNat / 10 % 10 := by
  simp only [tensOf, BitVec.toNat_ofNat]
  omega

theorem unitsOf_toNat (x : Half) : (unitsOf x).toNat = x.toNat % 10 := by
  simp only [unitsOf, BitVec.toNat_ofNat]
  omega

/-- Settles O48: each digit register is wide enough for its digit, so the digits are those of the
number. -/
theorem scoreSplitsIntoItsDigits : Obligations.ScoreSplitsIntoItsDigits := by
  refine ⟨fun x => ⟨hundredsOf_toNat x, tensOf_toNat x, unitsOf_toNat x, ?_, hundredsOf_le x,
    tensOf_le x, unitsOf_le x⟩, by decide, by decide, by decide, by decide⟩
  rw [hundredsOf_toNat, tensOf_toNat, unitsOf_toNat]
  omega

/-! ### One step of a digit (R122, R123) -/

/-- With no blink left, what follows the digit comes next. -/
theorem blinkStep_test_of_zero {s : State} (c : Channel) (here : BlinkAt → Phase)
    (leave : State → State) (h : s.blk = 0#10) : blinkStep c here leave .test s = leave s :=
  if_pos h

/-- While a blink remains, what follows the digit does not matter. -/
theorem blinkStep_of_ne_zero {s : State} (c : Channel) (here : BlinkAt → Phase)
    (leave leave' : State → State) (h : s.blk ≠ 0#10) (a : BlinkAt) :
    blinkStep c here leave a s = blinkStep c here leave' a s := by
  cases a
  case test => simp only [blinkStep, if_neg h]
  case onHold | off | offHold => rfl

/-- A step of a digit leaves it, or writes the phase, the digit's latch, the blinks that remain, a
delay's counter and the trace. -/
theorem blinkStep_eq {here : BlinkAt → Phase}
    (hhere : here = .dispH ∨ here = .dispT ∨ here = .dispU) (c : Channel) (leave : State → State)
    (a : BlinkAt) (s : State) :
    blinkStep c here leave a s = leave s ∨
      ∃ p l n d es, blinkStep c here leave a s =
          { s with ph := p, led := l, blk := n, dly := d, trace := es } ∧
        (∀ j : Channel, j ≠ c → l.getLsbD j.toNat = s.led.getLsbD j.toNat) ∧
        ((here a).delayAt = none → d = s.dly) := by
  have hlatch (b : Bool) (j : Channel) (hj : j ≠ c) :
      (withLatch s.led c b).getLsbD j.toNat = s.led.getLsbD j.toNat := by
    rw [withLatch_getLsbD, if_neg hj]
  cases a
  case test =>
    by_cases hblk : s.blk = 0#10
    · exact .inl (blinkStep_test_of_zero c here leave hblk)
    · exact .inr ⟨_, _, _, _, _, if_neg hblk, hlatch true, fun _ => rfl⟩
  case off => exact .inr ⟨_, _, _, _, _, rfl, hlatch false, fun _ => rfl⟩
  case onHold | offHold =>
    refine .inr ⟨_, _, _, _, _, rfl, fun _ _ => rfl, fun h => ?_⟩
    obtain rfl | rfl | rfl := hhere <;> cases h

/-- Settles O50: each of the four is the one step of its phase. -/
theorem scoreGoesThroughItsDigitsInOrder : Obligations.ScoreGoesThroughItsDigitsInOrder := by
  refine fun x s hb => ⟨fun hp => exec_of_primitive hb (.dispEnter x hp), fun hp h0 => ?_,
    fun hp h0 => ?_, fun hp h0 => ?_⟩
  · rw [exec_of_primitive hb (.dispH x _ hp), blinkStep_test_of_zero _ _ _ h0, toTens]
  · rw [exec_of_primitive hb (.dispT x _ hp), blinkStep_test_of_zero _ _ _ h0, toUnits]
  · rw [exec_of_primitive hb (.dispU x _ hp), blinkStep_test_of_zero _ _ _ h0, complete]
    rfl

/-- Settles O52: accept and the first step write what they name, and a step of a digit its own latch at
most, which is never that of channel 3. -/
theorem scoreLeavesTheRestAlone : Obligations.ScoreLeavesTheRestAlone := by
  intro x s t h
  obtain ⟨hb, rfl⟩ | ⟨hb, hprim⟩ := exec_next h
  · simp
  cases hprim with
  | sample _ _ hi => simp at hi
  | dispEnter _ hp => simp [enterDisplay, splitDigits, hb, hp]
  | dispH _ a hp =>
    obtain h | ⟨p, l, n, d, es, h, hl, hd⟩ :=
      blinkStep_eq (.inl rfl) hundredsChannel toTens a s
    · simp [h, toTens, hb]
    · simpa [h, hb, hp] using ⟨hl 3#2 (by decide), hd⟩
  | dispT _ a hp =>
    obtain h | ⟨p, l, n, d, es, h, hl, hd⟩ :=
      blinkStep_eq (.inr (.inl rfl)) tensChannel toUnits a s
    · simp [h, toUnits, hb]
    · simpa [h, hb, hp] using ⟨hl 3#2 (by decide), hd⟩
  | dispU _ a hp =>
    obtain h | ⟨p, l, n, d, es, h, hl, hd⟩ :=
      blinkStep_eq (.inr (.inr rfl)) unitsChannel (complete 0#16 false) a s
    · simp [h, hb]
    · simpa [h, hb, hp] using ⟨hl 3#2 (by decide), hd⟩

/-! ### The blinks of a digit (R123) -/

/-- The channel of a digit and the digit's phase (R122). -/
def ShowsDigit (c : Channel) (here : BlinkAt → Phase) : Prop :=
  (c = 2 ∧ here = .dispH) ∨ (c = 1 ∧ here = .dispT) ∨ (c = 0 ∧ here = .dispU)

/-- `s` after all the blinks of the channel `c` that `BLK` counts. -/
def blinked (c : Channel) (s : State) : State :=
  { s with
    blk := 0#10
    led := if s.blk = 0#10 then s.led else withLatch s.led c false
    trace := s.trace ++ times s.blk.toNat (blink c) }

/-- `s` after one blink of the channel `c`. -/
def blinkedOnce (c : Channel) (s : State) : State :=
  { s with
    blk := s.blk - 1#10
    led := withLatch s.led c false
    trace := s.trace ++ blink c }

theorem times_succ_left (n : Nat) (es : List Event) : times (n + 1) es = es ++ times n es := by
  simp [times, List.replicate_succ]

/-- Of two writes of a latch the second counts. -/
theorem withLatch_withLatch (l : Pads) (c : Channel) (b b' : Bool) :
    withLatch (withLatch l c b) c b' = withLatch l c b' := by
  apply BitVec.eq_of_getLsbD_eq
  intro j hj
  have hbit (l : Pads) (b : Bool) := withLatch_getLsbD l c (BitVec.ofNat 2 j) b
  rw [BitVec.toNat_ofNat, Nat.mod_eq_of_lt hj] at hbit
  simp only [hbit]
  split <;> rfl

theorem blinked_of_zero (c : Channel) {s : State} (h : s.blk = 0#10) : blinked c s = s := by
  have hblinks : s.blk.toNat = 0 := by rw [h]; rfl
  rw [blinked, if_pos h, hblinks, times_zero, List.append_nil, ← h]

theorem blinked_blinkedOnce (c : Channel) {s : State} (h : s.blk ≠ 0#10) :
    blinked c (blinkedOnce c s) = blinked c s := by
  have hblk : s.blk.toNat = (s.blk - 1#10).toNat + 1 := by bv_omega
  simp only [blinked, blinkedOnce, withLatch_withLatch, ite_self, if_neg h, hblk, times_succ_left,
    List.append_assoc]

section
variable {c : Channel} {here : BlinkAt → Phase} (x : Half) (hdigit : ShowsDigit c here)
include hdigit

theorem exec_digit {s : State} (hb : s.busy = true) {a : BlinkAt} (hp : s.ph = here a) :
    ∃ leave, exec (.score x) s = .next (blinkStep c here leave a s) := by
  obtain ⟨rfl, rfl⟩ | ⟨rfl, rfl⟩ | ⟨rfl, rfl⟩ := hdigit
  · exact ⟨_, exec_of_primitive hb (.dispH x a hp)⟩
  · exact ⟨_, exec_of_primitive hb (.dispT x a hp)⟩
  · exact ⟨_, exec_of_primitive hb (.dispU x a hp)⟩

/-- A step of a digit while a blink remains; `id` stands for what would follow the digit. -/
theorem exec_blinkStep {s : State} (hb : s.busy = true) (hblk : s.blk ≠ 0#10) {a : BlinkAt}
    (hp : s.ph = here a) : exec (.score x) s = .next (blinkStep c here id a s) := by
  obtain ⟨leave, h⟩ := exec_digit x hdigit hb hp
  rw [h, blinkStep_of_ne_zero c here leave id hblk]

theorem runCommand_blinkStep {s t : State} {m : Nat} (hrun : runCommand (.score x) m s = .next t)
    (hb : t.busy = true) (hblk : t.blk ≠ 0#10) {a : BlinkAt} (hp : t.ph = here a) :
    runCommand (.score x) (m + 1) s = .next (blinkStep c here id a t) :=
  (runCommand_snoc hrun).trans (exec_blinkStep x hdigit hb hblk hp)

/-- One blink takes four primitives. -/
theorem runCommand_blinkedOnce {s : State} (hb : s.busy = true) (h0 : s.dly = 0#10)
    (hp : s.ph = here .test) (hblk : s.blk ≠ 0#10) :
    runCommand (.score x) 4 s = .next (blinkedOnce c s) := by
  have hon := runCommand_blinkStep x hdigit (m := 0) rfl hb hblk hp
  simp only [blinkStep, if_neg hblk] at hon
  have hhold := runCommand_blinkStep x hdigit hon hb hblk rfl
  have hoff := runCommand_blinkStep x hdigit hhold hb hblk rfl
  refine (runCommand_blinkStep x hdigit hoff hb hblk rfl).trans ?_
  simp [blinkedOnce, blink, blinkStep, pinWrite, delay, emit, tBlinkOn, tBlinkOff, h0, hp,
    withLatch_withLatch]

/-- R123: the blinks of a digit, by induction on how many remain. -/
theorem runCommand_blinked {s : State} (hb : s.busy = true) (h0 : s.dly = 0#10)
    (hp : s.ph = here .test) :
    runCommand (.score x) (4 * s.blk.toNat) s = .next (blinked c s) := by
  induction hn : s.blk.toNat generalizing s with
  | zero =>
    have hblk : s.blk = 0#10 := by bv_omega
    rw [blinked_of_zero c hblk]
    rfl
  | succ n ih =>
    have hblk : s.blk ≠ 0#10 := by bv_omega
    have hrest : (blinkedOnce c s).blk.toNat = n := by simp only [blinkedOnce]; bv_omega
    have hsteps : 4 * (n + 1) = 4 + 4 * n := by omega
    rw [hsteps, runCommand_add (runCommand_blinkedOnce x hdigit hb h0 hp hblk),
      ih (s := blinkedOnce c s) hb h0 hp hrest, blinked_blinkedOnce c hblk]

/-- A run that has come to a digit goes on with the digit's blinks and what follows them. -/
theorem runCommand_digit {s t u : State} {m n : Nat}
    (hrun : runCommand (.score x) m s = .next t) (hb : t.busy = true) (h0 : t.dly = 0#10)
    (hp : t.ph = here .test) (hn : t.blk.toNat = n)
    (hleave : exec (.score x) (blinked c t) = .next u) :
    runCommand (.score x) (m + 4 * n + 1) s = .next u := by
  subst hn
  have hblinks := (runCommand_add hrun _).trans (runCommand_blinked x hdigit hb h0 hp)
  exact (runCommand_snoc hblinks).trans hleave

end

/-- Settles O49: the three digits blink alike. -/
theorem blinkRunsItsCount : Obligations.BlinkRunsItsCount :=
  fun x _ _ _ hb h0 hdigit hp => runCommand_blinked x hdigit hb h0 hp

/-! ### A whole score (R120 to R122) -/

/-- The score `x` from its accept in `s` to the loop's test of the hundreds. -/
def showingHundreds (x : Half) (s : State) : State := enterDisplay (accept (.score x) s)

/-- To the loop's test of the tens. -/
def showingTens (x : Half) (s : State) : State := toTens (blinked 2 (showingHundreds x s))

/-- To the loop's test of the units. -/
def showingUnits (x : Half) (s : State) : State := toUnits (blinked 1 (showingTens x s))

theorem runCommand_showingHundreds (x : Half) {s : State} (hb : s.busy = false) :
    runCommand (.score x) 2 s = .next (showingHundreds x s) := by
  have haccept := (runCommand_one (.score x) s).trans (exec_idle _ s hb)
  exact (runCommand_snoc haccept).trans (exec_of_primitive rfl (.dispEnter x rfl))

theorem showingTens_blk (x : Half) (s : State) :
    (showingTens x s).blk.toNat = x.toNat / 10 % 10 :=
  (BitVec.toNat_setWidth_of_le (by decide)).trans (tensOf_toNat x)

theorem showingUnits_blk (x : Half) (s : State) :
    (showingUnits x s).blk.toNat = x.toNat % 10 :=
  (BitVec.toNat_setWidth_of_le (by decide)).trans (unitsOf_toNat x)

/-- R120 to R122: from accept to completion, the three digits one after another. -/
theorem runCommand_score (x : Half) {s : State} (hb : s.busy = false) (h0 : s.dly = 0#10) :
    runCommand (.score x) (5 + 4 * (x.toNat / 100 + x.toNat / 10 % 10 + x.toNat % 10)) s =
      .next (complete 0#16 false (blinked 0 (showingUnits x s))) := by
  obtain ⟨-, htens, -, -⟩ :=
    scoreGoesThroughItsDigitsInOrder x (blinked 2 (showingHundreds x s)) rfl
  obtain ⟨-, -, hunits, -⟩ :=
    scoreGoesThroughItsDigitsInOrder x (blinked 1 (showingTens x s)) rfl
  obtain ⟨-, -, -, hcomplete⟩ :=
    scoreGoesThroughItsDigitsInOrder x (blinked 0 (showingUnits x s)) rfl
  have hrunH := runCommand_digit x (.inl ⟨rfl, rfl⟩) (runCommand_showingHundreds x hb) rfl h0 rfl
    (hundredsOf_toNat x) (htens rfl rfl)
  have hrunT := runCommand_digit (t := showingTens x s) x (.inr (.inl ⟨rfl, rfl⟩)) hrunH rfl h0 rfl
    (showingTens_blk x s) (hunits rfl rfl)
  have hrunU := runCommand_digit (t := showingUnits x s) x (.inr (.inr ⟨rfl, rfl⟩)) hrunT rfl h0 rfl
    (showingUnits_blk x s) (hcomplete rfl rfl)
  have hsteps : 5 + 4 * (x.toNat / 100 + x.toNat / 10 % 10 + x.toNat % 10) =
      2 + 4 * (x.toNat / 100) + 1 + 4 * (x.toNat / 10 % 10) + 1 + 4 * (x.toNat % 10) + 1 := by
    omega
  rw [hsteps, hrunU]
  rfl

/-- The latches that `n` blinks of the channel `c` leave alone (R123). -/
def keptLatches (c : Channel) (n : Nat) : Pads :=
  if n = 0 then BitVec.allOnes 4 else ~~~onehot c

theorem blinked_led (c : Channel) {s : State} {n : Nat} (hn : s.blk.toNat = n) :
    (blinked c s).led = s.led &&& keptLatches c n := by
  rw [blinked, keptLatches]
  by_cases hblk : s.blk = 0#10
  · have hzero : n = 0 := by rw [← hn, hblk]; rfl
    rw [if_pos hblk, if_pos hzero, BitVec.and_allOnes]
  · have hne : n ≠ 0 := by bv_omega
    rw [if_neg hblk, if_neg hne]
    rfl

theorem blinked_trace (c : Channel) {s : State} {n : Nat} (hn : s.blk.toNat = n) :
    (blinked c s).trace = s.trace ++ times n (blink c) := by
  rw [← hn, blinked]

/-- The latches of the digits that are not 0 are off (R123), and `LED[3]` is kept. -/
theorem keptLatches_digits (h t u : Nat) :
    keptLatches 2 h &&& keptLatches 1 t &&& keptLatches 0 u =
      0b1000 ||| (if h = 0 then 0b0100 else 0) ||| (if t = 0 then 0b0010 else 0) |||
        (if u = 0 then 0b0001 else 0) := by
  unfold keptLatches
  split <;> split <;> split <;> rfl

section
variable (x : Half) (s : State)

theorem showingTens_led : (showingTens x s).led = s.led &&& keptLatches 2 (x.toNat / 100) :=
  blinked_led (s := showingHundreds x s) 2 (hundredsOf_toNat x)

theorem showingUnits_led :
    (showingUnits x s).led = (showingTens x s).led &&& keptLatches 1 (x.toNat / 10 % 10) :=
  blinked_led 1 (showingTens_blk x s)

theorem showingTens_trace :
    (showingTens x s).trace =
      s.trace ++ [.modeAll .output] ++ times (x.toNat / 100) (blink 2) :=
  blinked_trace (s := showingHundreds x s) 2 (hundredsOf_toNat x)

theorem showingUnits_trace :
    (showingUnits x s).trace = (showingTens x s).trace ++ times (x.toNat / 10 % 10) (blink 1) :=
  blinked_trace 1 (showingTens_blk x s)

end

/-- Settles O51: the run, and what the three digits leave of the latches and append to the trace. -/
theorem scoreRunsFromAcceptToCompletion : Obligations.ScoreRunsFromAcceptToCompletion := by
  intro x s hb h0
  have hled := blinked_led 0 (showingUnits_blk x s)
  have htrace := blinked_trace 0 (showingUnits_blk x s)
  rw [showingUnits_led, showingTens_led, BitVec.and_assoc, BitVec.and_assoc,
    ← BitVec.and_assoc (keptLatches 2 _), keptLatches_digits] at hled
  rw [showingUnits_trace, showingTens_trace] at htrace
  rw [runCommand_score x hb h0, ← hled, ← htrace]
  rfl

end Sys2Proof.Machine

/-! # The animations (spec/43_animation.md) -/

namespace Sys2Proof.Machine

/-! ### One step of the start animation (R130, R131) -/

section
variable {s : State}

theorem exec_startAnim {a : StartAnimAt} (hb : s.busy = true) (hp : s.ph = .animS a) :
    exec .anims s = .next (startAnimStep a s) :=
  exec_of_primitive hb (.animS a hp)

theorem idx_succ_eq_four_iff (x : BitVec 3) : x + 1#3 = 4#3 ↔ x = 3#3 := by
  revert x
  decide

/-- Before channel 3 the on-sweep goes on with the next channel. -/
theorem onSweepHold_of_idx_ne (h3 : s.idx ≠ 3#3) :
    onSweepHold s = { delay tAnimStep s with idx := s.idx + 1#3, ph := .animS .onWrite } :=
  if_neg (mt (idx_succ_eq_four_iff s.idx).mp h3)

/-- After channel 3 a repetition is done, and after the second the pause follows (log 19: `IDX` is then
4). -/
theorem onSweepHold_of_idx_eq (h3 : s.idx = 3#3) :
    onSweepHold s = { delay tAnimStep s with
      idx := if s.rep + 1#2 = nAnimRep then 4#3 else 0#3
      rep := s.rep + 1#2
      ph := .animS (if s.rep + 1#2 = nAnimRep then .pause else .offWrite) } := by
  have h4 : s.idx + 1#3 = 4#3 := (idx_succ_eq_four_iff s.idx).mpr h3
  rw [onSweepHold, if_pos h4, h4]
  split <;> rfl

/-- The `Delay` after channel 3 of the on-sweep, with no tick counted. -/
theorem exec_onHold_of_idx_eq (hb : s.busy = true) (h0 : s.dly = 0#10) (hp : s.ph = .animS .onHold)
    (h3 : s.idx = 3#3) :
    exec .anims s = .next { s with
      idx := if s.rep + 1#2 = nAnimRep then 4#3 else 0#3
      rep := s.rep + 1#2
      ph := .animS (if s.rep + 1#2 = nAnimRep then .pause else .offWrite)
      trace := s.trace ++ [.delay 100] } := by
  rw [exec_startAnim hb hp, startAnimStep, onSweepHold_of_idx_eq h3, delay_of_dly_zero _ h0]
  rfl

/-- Settles O57: the step of each place, with no tick counted in its `Delay`. -/
theorem startAnimationStepsThroughItsSweeps : Obligations.StartAnimationStepsThroughItsSweeps := by
  refine fun s hb => ⟨fun hp h0 _ => ?_, fun hp h0 hidx => ?_, fun hp h0 h3 hrep => ?_,
    fun hp h0 h3 hrep => ?_, fun hp h0 => ?_, fun hp => exec_startAnim hb hp⟩
  · rw [exec_startAnim hb hp, startAnimStep, offSweepHold_eq, delay_of_dly_zero _ h0]
    simp only [idx_succ_eq_four_iff, apply_ite Phase.animS]
    rfl
  · have h3 : s.idx ≠ 3#3 := by bv_omega
    rw [exec_startAnim hb hp, startAnimStep, onSweepHold_of_idx_ne h3, delay_of_dly_zero _ h0]
    rfl
  · rw [exec_onHold_of_idx_eq hb h0 hp h3, hrep]
    rfl
  · rw [exec_onHold_of_idx_eq hb h0 hp h3, hrep]
    rfl
  · rw [exec_startAnim hb hp, startAnimStep, delay_of_dly_zero _ h0]
    rfl

/-- Below 4 the index is the channel's number. -/
theorem eq_sweepChannel_iff {x : BitVec 3} (hx : x.toNat < 4) (j : Channel) :
    j = sweepChannel x ↔ j.toNat = x.toNat := by
  have hchannel : (sweepChannel x).toNat = x.toNat := Nat.mod_eq_of_lt hx
  rw [← BitVec.toNat_inj, hchannel]

theorem sweepWrite_led_getLsbD (b : Bool) (next : StartAnimAt) (hidx : s.idx.toNat < 4)
    (j : Channel) :
    (sweepWrite b next s).led.getLsbD j.toNat =
      if j.toNat = s.idx.toNat then b else s.led.getLsbD j.toNat := by
  simp only [← eq_sweepChannel_iff hidx]
  exact withLatch_getLsbD s.led _ j b

/-- Settles O55: both sweeps write by `sweepWrite`. -/
theorem sweepWritesOneChannelAStep : Obligations.SweepWritesOneChannelAStep :=
  fun _ hb hidx =>
    ⟨fun hp => ⟨_, exec_startAnim hb hp, rfl, rfl, rfl, rfl, sweepWrite_led_getLsbD _ _ hidx⟩,
      fun hp => ⟨_, exec_startAnim hb hp, rfl, rfl, rfl, rfl, sweepWrite_led_getLsbD _ _ hidx⟩⟩

end

/-! ### A sweep (R131) -/

/-- The place before a write of the off-sweep or the on-sweep. -/
def writeAt : Bool → StartAnimAt
  | false => .offWrite
  | true => .onWrite

/-- The place before the `Delay` after such a write. -/
def holdAt : Bool → StartAnimAt
  | false => .offHold
  | true => .onHold

/-- The latches `l` after the first `n` channels of a sweep that writes `b`. -/
def sweptLatches (b : Bool) (l : Pads) : Nat → Pads
  | 0 => l
  | n + 1 => withLatch (sweptLatches b l n) (BitVec.ofNat 2 n) b

/-- The events of the first `n` channels of a sweep that writes `b`. -/
def sweepEvents (b : Bool) : Nat → List Event
  | 0 => []
  | n + 1 => sweepEvents b n ++ [.led (BitVec.ofNat 2 n) b, .delay 100]

/-- `s` after the first `n` channels of a sweep that writes `b`. -/
def swept (b : Bool) (n : Nat) (s : State) : State :=
  { s with
    led := sweptLatches b s.led n
    idx := BitVec.ofNat 3 n
    trace := s.trace ++ sweepEvents b n }

/-- A whole sweep leaves nothing of what the latches were. -/
theorem sweptLatches_four (b : Bool) (l : Pads) :
    sweptLatches b l 4 = if b then 0b1111#4 else 0b0000#4 := by
  revert b l
  decide

theorem sweepChannel_ofNat (n : Nat) : sweepChannel (BitVec.ofNat 3 n) = BitVec.ofNat 2 n := by
  apply BitVec.eq_of_toNat_eq
  simp only [sweepChannel, BitVec.extractLsb'_toNat, BitVec.toNat_ofNat, Nat.shiftRight_zero]
  omega

theorem swept_zero (b : Bool) {s : State} (hidx : s.idx = 0#3) : swept b 0 s = s := by
  simp [swept, sweptLatches, sweepEvents, ← hidx]

section
variable {s : State} {b : Bool} (hb : s.busy = true)
include hb

theorem exec_writeAt (hp : s.ph = .animS (writeAt b)) :
    exec .anims s = .next (sweepWrite b (holdAt b) s) := by
  rw [exec_startAnim hb hp]
  cases b <;> rfl

variable (h0 : s.dly = 0#10)
include h0

/-- Before channel 3 both sweeps go on with the next channel. -/
theorem exec_holdAt (hp : s.ph = .animS (holdAt b)) (h3 : s.idx ≠ 3#3) :
    exec .anims s = .next { s with
      idx := s.idx + 1#3, ph := .animS (writeAt b), trace := s.trace ++ [.delay 100] } := by
  rw [exec_startAnim hb hp]
  cases b with
  | false =>
    have h4 : s.idx + 1#3 ≠ 4#3 := mt (idx_succ_eq_four_iff s.idx).mp h3
    rw [holdAt, startAnimStep, offSweepHold_eq, delay_of_dly_zero _ h0, if_neg h4, if_neg h4]
    rfl
  | true =>
    rw [holdAt, startAnimStep, onSweepHold_of_idx_ne h3, delay_of_dly_zero _ h0]
    rfl

/-- Each channel takes a write and a `Delay`; by induction on the channels that are done. -/
theorem runCommand_swept (hp : s.ph = .animS (writeAt b)) (hidx : s.idx = 0#3) {n : Nat}
    (hn : n ≤ 3) : runCommand .anims (2 * n) s = .next (swept b n s) := by
  induction n with
  | zero => rw [swept_zero b hidx]; rfl
  | succ n ih =>
    have h3 : BitVec.ofNat 3 n ≠ 3#3 := by bv_omega
    have hwrite := exec_writeAt (b := b) (s := swept b n s) hb hp
    have hhold := exec_holdAt (s := sweepWrite b (holdAt b) (swept b n s)) hb h0 rfl h3
    have hrun := (runCommand_snoc (ih (by omega))).trans hwrite
    refine ((runCommand_snoc hrun).trans hhold).trans ?_
    simp [swept, sweptLatches, sweepEvents, sweepWrite, pinWrite, emit, sweepChannel_ofNat, hp,
      BitVec.ofNat_add]

/-- A sweep, to the `Delay` after the write of channel 3. -/
theorem runCommand_lastHold (hp : s.ph = .animS (writeAt b)) (hidx : s.idx = 0#3) :
    runCommand .anims 7 s = .next (sweepWrite b (holdAt b) (swept b 3 s)) :=
  (runCommand_snoc (runCommand_swept hb h0 hp hidx le_rfl)).trans (exec_writeAt hb hp)

/-- The whole off-sweep. -/
theorem runCommand_offSweep (hp : s.ph = .animS .offWrite) (hidx : s.idx = 0#3) :
    runCommand .anims 8 s =
      .next { swept false 4 s with idx := 0#3, ph := .animS .onWrite } := by
  obtain ⟨hturn, -⟩ :=
    startAnimationStepsThroughItsSweeps (sweepWrite false .offHold (swept false 3 s)) hb
  rw [runCommand_snoc (runCommand_lastHold (b := false) hb h0 hp hidx)]
  refine (hturn rfl h0 (show 3 < 4 by decide)).trans ?_
  simp [swept, sweptLatches, sweepEvents, sweepWrite, pinWrite, emit, sweepChannel]

/-- The whole on-sweep. -/
theorem runCommand_onSweep (hp : s.ph = .animS .onWrite) (hidx : s.idx = 0#3) :
    runCommand .anims 8 s = .next { swept true 4 s with
      idx := if s.rep + 1#2 = nAnimRep then 4#3 else 0#3
      rep := s.rep + 1#2
      ph := .animS (if s.rep + 1#2 = nAnimRep then .pause else .offWrite) } := by
  have hhold := exec_onHold_of_idx_eq (s := sweepWrite true .onHold (swept true 3 s)) hb h0 rfl rfl
  rw [runCommand_snoc (runCommand_lastHold (b := true) hb h0 hp hidx)]
  refine hhold.trans ?_
  simp [swept, sweptLatches, sweepEvents, sweepWrite, pinWrite, emit, sweepChannel]

end

/-! ### A whole start animation (R130, R131) -/

/-- `s` after a repetition of the two sweeps. -/
def afterRepetition (s : State) : State :=
  { s with
    led := 0b1111#4
    idx := if s.rep + 1#2 = nAnimRep then 4#3 else 0#3
    rep := s.rep + 1#2
    ph := .animS (if s.rep + 1#2 = nAnimRep then .pause else .offWrite)
    trace := s.trace ++ startSweeps }

theorem startSweeps_eq : startSweeps = sweepEvents false 4 ++ sweepEvents true 4 := rfl

/-- A repetition: the off-sweep, then the on-sweep, which lights every latch. -/
theorem runCommand_afterRepetition {s : State} (hb : s.busy = true) (h0 : s.dly = 0#10)
    (hp : s.ph = .animS .offWrite) (hidx : s.idx = 0#3) :
    runCommand .anims 16 s = .next (afterRepetition s) := by
  have hon := runCommand_onSweep
    (s := { swept false 4 s with idx := 0#3, ph := .animS .onWrite }) hb h0 rfl rfl
  rw [runCommand_add (runCommand_offSweep hb h0 hp hidx) 8, hon]
  simp [afterRepetition, swept, sweptLatches_four, startSweeps_eq]

/-- R66: a command's accept and its first primitive. -/
theorem runCommand_first {i : Instr} {s t : State} (hb : s.busy = false)
    (h : Primitive (accept i s) i t) : runCommand i 2 s = .next t := by
  have haccept := (runCommand_one i s).trans (exec_idle i s hb)
  exact (runCommand_snoc haccept).trans (exec_of_primitive rfl h)

/-- The start animation from its accept in `s` to the first write. -/
def startedAnim (s : State) : State := enterStartAnim (accept .anims s)

/-- Settles O53: the entry, two repetitions, the pause and the completion. -/
theorem startAnimationRunsFromAcceptToCompletion :
    Obligations.StartAnimationRunsFromAcceptToCompletion := by
  intro s hb h0
  have hstart : runCommand .anims 2 s = .next (startedAnim s) :=
    runCommand_first hb (.animS .enter rfl)
  have hfirst := (runCommand_add hstart 16).trans (runCommand_afterRepetition rfl h0 rfl rfl)
  have hsecond := (runCommand_add hfirst 16).trans (runCommand_afterRepetition rfl h0 rfl rfl)
  obtain ⟨-, -, -, -, hpause, -⟩ :=
    startAnimationStepsThroughItsSweeps (afterRepetition (afterRepetition (startedAnim s))) rfl
  have hpaused := (runCommand_snoc hsecond).trans (hpause rfl h0)
  refine ((runCommand_snoc hpaused).trans (exec_startAnim (a := .finish) rfl rfl)).trans ?_
  simp [startAnimStep, complete, afterRepetition, startedAnim, enterStartAnim, pinModeAll, emit,
    modeBits, accept, opcodeOf, operandOf, nAnimRep, times_succ, times_zero]

/-! ### The fail animation (R132, R133) -/

theorem exec_failAnim {s : State} {a : FailAnimAt} (hb : s.busy = true) (hp : s.ph = .animF a) :
    exec .animf s = .next (failAnimStep a s) :=
  exec_of_primitive hb (.animF a hp)

/-- Settles O56: the step of each place, with no tick counted in its `Delay`. -/
theorem failAnimationFlashesAllFourAtOnce : Obligations.FailAnimationFlashesAllFourAtOnce := by
  refine fun s hb => ⟨fun hp => exec_failAnim hb hp, fun hp h0 => ?_, fun hp => exec_failAnim hb hp,
    fun hp h0 hrep => ?_, fun hp => exec_failAnim hb hp⟩
  · rw [exec_failAnim hb hp, failAnimStep, delay_of_dly_zero _ h0]
    rfl
  · rw [exec_failAnim hb hp, failAnimStep, failOffHold_eq, delay_of_dly_zero _ h0]
    obtain h | h : s.rep = 0#2 ∨ s.rep = 1#2 := by bv_omega
    all_goals
      rw [h]
      rfl

/-- `s` after one flash (R133). -/
def flashed (s : State) : State :=
  { s with
    led := 0b0000#4
    rep := s.rep + 1#2
    ph := if s.rep = 0#2 then .animF .on else .animF .finish
    trace := s.trace ++ failFlash }

/-- One flash takes four primitives. -/
theorem runCommand_flashed {s : State} (hb : s.busy = true) (h0 : s.dly = 0#10)
    (hp : s.ph = .animF .on) (hrep : s.rep.toNat < 2) :
    runCommand .animf 4 s = .next (flashed s) := by
  have hon := (runCommand_one .animf s).trans (exec_failAnim hb hp)
  have hhold := (runCommand_snoc hon).trans (exec_failAnim hb rfl)
  have hoff := (runCommand_snoc hhold).trans (exec_failAnim hb rfl)
  obtain ⟨-, -, -, hlast, -⟩ := failAnimationFlashesAllFourAtOnce
    (failAnimStep .off (failAnimStep .onHold (failAnimStep .on s))) hb
  refine ((runCommand_snoc hoff).trans (hlast rfl rfl hrep)).trans ?_
  simp [flashed, failFlash, failAnimStep, pinWriteAll, delay, emit, tFail, h0]

/-- The fail animation from its accept in `s` to the first flash. -/
def startedFail (s : State) : State := enterFailAnim (accept .animf s)

/-- Settles O54: the entry, two flashes and the completion. -/
theorem failAnimationRunsFromAcceptToCompletion :
    Obligations.FailAnimationRunsFromAcceptToCompletion := by
  intro s hb h0
  have hstart : runCommand .animf 2 s = .next (startedFail s) :=
    runCommand_first hb (.animF .enter rfl)
  have hfirst := (runCommand_add hstart 4).trans
    (runCommand_flashed rfl h0 rfl (show 0 < 2 by decide))
  have hsecond := (runCommand_add hfirst 4).trans
    (runCommand_flashed rfl h0 rfl (show 1 < 2 by decide))
  refine ((runCommand_snoc hsecond).trans (exec_failAnim (a := .finish) rfl rfl)).trans ?_
  simp [failAnimStep, complete, flashed, startedFail, enterFailAnim, pinModeAll, emit, modeBits,
    accept, opcodeOf, operandOf, times_succ, times_zero]

/-! ### What the animations leave unchanged -/

/-- Settles O58: accept, and each primitive of the two animations. -/
theorem animationsLeaveTheRestAlone : Obligations.AnimationsLeaveTheRestAlone := by
  intro i s t hi h
  obtain ⟨hb, rfl⟩ | ⟨hb, hprim⟩ := exec_next h
  · simp
  cases hprim with
  | animS a hp =>
    cases a with
    | enter => simp [startAnimStep, enterStartAnim, hb, hp]
    | offWrite | onWrite => simp [startAnimStep, sweepWrite, hb]
    | offHold => simp [startAnimStep, offSweepHold_eq, hb, hp, Phase.delayAt]
    | onHold =>
      obtain ⟨-, h⟩ | ⟨-, h⟩ | ⟨-, h⟩ := onSweepHold_cases s <;>
        simp [startAnimStep, h, hb, hp, Phase.delayAt]
    | pause => simp [startAnimStep, hb, hp, Phase.delayAt]
    | finish => simp [startAnimStep, hb]
  | animF a hp =>
    cases a with
    | enter => simp [failAnimStep, enterFailAnim, hb, hp]
    | on | off => simp [failAnimStep, hb]
    | onHold => simp [failAnimStep, hb, hp, Phase.delayAt]
    | offHold => simp [failAnimStep, failOffHold_eq, hb, hp, Phase.delayAt]
    | finish => simp [failAnimStep, hb]
  | sample _ _ hdraw => obtain rfl | rfl := hi <;> simp at hdraw
  | _ => simp at hi

end Sys2Proof.Machine

/-! # The one exception (spec/60_exceptions.md) -/

namespace Sys2Proof.Machine

/-! ### No command looks at `ERR` (R142)

`raiseIllegalCommand` sets `ERR` and nothing else, so a step that commutes with it does not depend on
`ERR` and does not clear it. -/

section
variable {i : Instr} {s t : State}

theorem accumulateSample_raiseIllegalCommand (s : State) :
    accumulateSample (raiseIllegalCommand s) = raiseIllegalCommand (accumulateSample s) := by
  simp only [accumulateSample_eq]
  rfl

theorem sampleStep_raiseIllegalCommand (a : SampleAt) (s : State) :
    sampleStep a (raiseIllegalCommand s) = raiseIllegalCommand (sampleStep a s) := by
  cases a with
  | seedInit =>
    cases hinit : s.cfg.seedInit with
    | draw =>
      rw [sampleStep_draw hinit, sampleStep_draw (s := raiseIllegalCommand s) hinit]
      rfl
    | zero =>
      rw [sampleStep_zero hinit, sampleStep_zero (s := raiseIllegalCommand s) hinit]
      exact accumulateSample_raiseIllegalCommand { s with seed := 0#16, scnt := 0#5 }
  | accumulate =>
    simp only [sampleStep, raiseIllegalCommand_scnt, accumulateSample_raiseIllegalCommand]
    split <;> rfl

theorem showStep_raiseIllegalCommand (a : ShowAt) (s : State) :
    showStep a (raiseIllegalCommand s) = raiseIllegalCommand (showStep a s) := by
  cases a <;> rfl

theorem leaveAwait_raiseIllegalCommand (s : State) :
    leaveAwait (raiseIllegalCommand s) = raiseIllegalCommand (leaveAwait s) := by
  simp only [leaveAwait, apply_ite raiseIllegalCommand]
  rfl

theorem poll_raiseIllegalCommand (s : State) :
    poll (raiseIllegalCommand s) = raiseIllegalCommand (poll s) := by
  simp only [poll_eq_pollPhase]
  rfl

theorem awaitStep_raiseIllegalCommand (a : AwaitAt) (s : State) :
    awaitStep a (raiseIllegalCommand s) = raiseIllegalCommand (awaitStep a s) := by
  cases a with
  | wait => rfl
  | test =>
    simp only [awaitStep, raiseIllegalCommand_cnt, leaveAwait_raiseIllegalCommand,
      poll_raiseIllegalCommand]
    split <;> rfl

theorem releaseStep_raiseIllegalCommand (o : RoundOutcome) (s : State) :
    releaseStep o (raiseIllegalCommand s) = raiseIllegalCommand (releaseStep o s) := by
  simp only [releaseStep_eq]
  rfl

theorem blinkStep_raiseIllegalCommand (c : Channel) (here : BlinkAt → Phase)
    (leave : State → State)
    (hleave : leave (raiseIllegalCommand s) = raiseIllegalCommand (leave s)) (a : BlinkAt) :
    blinkStep c here leave a (raiseIllegalCommand s) =
      raiseIllegalCommand (blinkStep c here leave a s) := by
  cases a with
  | test =>
    simp only [blinkStep, raiseIllegalCommand_blk, hleave]
    split <;> rfl
  | onHold | off | offHold => rfl

theorem startAnimStep_raiseIllegalCommand (a : StartAnimAt) (s : State) :
    startAnimStep a (raiseIllegalCommand s) = raiseIllegalCommand (startAnimStep a s) := by
  cases a with
  | offHold =>
    simp only [startAnimStep, offSweepHold_eq]
    rfl
  | onHold =>
    simp only [startAnimStep]
    by_cases h3 : s.idx = 3#3
    · rw [onSweepHold_of_idx_eq h3, onSweepHold_of_idx_eq (s := raiseIllegalCommand s) h3]
      rfl
    · rw [onSweepHold_of_idx_ne h3, onSweepHold_of_idx_ne (s := raiseIllegalCommand s) h3]
      rfl
  | enter | offWrite | onWrite | pause | finish => rfl

theorem failAnimStep_raiseIllegalCommand (a : FailAnimAt) (s : State) :
    failAnimStep a (raiseIllegalCommand s) = raiseIllegalCommand (failAnimStep a s) := by
  cases a with
  | offHold =>
    simp only [failAnimStep, failOffHold_eq]
    rfl
  | enter | on | onHold | off | finish => rfl

/-- A primitive of the running command does the same with `ERR` set. -/
theorem Primitive.raiseIllegalCommand (h : Primitive s i t) :
    Primitive (raiseIllegalCommand s) i (raiseIllegalCommand t) := by
  cases h with
  | sample _ a hi hp => rw [← sampleStep_raiseIllegalCommand]; exact .sample i a hi hp
  | finishChannel hp => exact .finishChannel hp
  | finishRange r hp => exact .finishRange r hp
  | enterShow b hp => exact .enterShow b hp
  | showTarget b a hp => rw [← showStep_raiseIllegalCommand]; exact .showTarget b a hp
  | await b a hp => rw [← awaitStep_raiseIllegalCommand]; exact .await b a hp
  | relWait b o hp => rw [← releaseStep_raiseIllegalCommand]; exact .relWait b o hp
  | resHit b hp => exact .resHit b hp
  | resFail b hp => exact .resFail b hp
  | dispEnter x hp => exact .dispEnter x hp
  | dispH x a hp => rw [← blinkStep_raiseIllegalCommand _ _ toTens rfl]; exact .dispH x a hp
  | dispT x a hp => rw [← blinkStep_raiseIllegalCommand _ _ toUnits rfl]; exact .dispT x a hp
  | dispU x a hp =>
    rw [← blinkStep_raiseIllegalCommand _ _ (complete 0#16 false) rfl]
    exact .dispU x a hp
  | animS a hp => rw [← startAnimStep_raiseIllegalCommand]; exact .animS a hp
  | animF a hp => rw [← failAnimStep_raiseIllegalCommand]; exact .animF a hp

/-- R142: `ERR` stops no command and changes none. -/
theorem exec_raiseIllegalCommand (h : exec i s = .next t) :
    exec i (raiseIllegalCommand s) = .next (raiseIllegalCommand t) := by
  obtain ⟨hb, rfl⟩ | ⟨hb, hprim⟩ := exec_next h
  · exact exec_idle i (raiseIllegalCommand s) hb
  · exact exec_of_primitive hb hprim.raiseIllegalCommand

/-- R142: no turn but a reset clears `ERR`. -/
theorem TurnEffect.err_of_err {s' : State} (h : TurnEffect s s' t) (herr : s'.err = true) :
    t.err = true := by
  cases h with
  | run i _ _ _ hexec => exact (exec_frame hexec).1.trans herr
  | illegal => rfl
  | same | beginDelay | countPeriod | accept | read => exact herr

end

/-- Settles O9: the turns but reset leave `ERR` alone or set it, and `exec` commutes with the
exception, which sets `ERR` and nothing else. -/
theorem errIsStickyAndHarmless : Obligations.ErrIsStickyAndHarmless := by
  refine ⟨fun s t h herr => ?_, fun i s t => exec_raiseIllegalCommand⟩
  obtain ⟨rest, hreset, -⟩ | e := step_next h
  · exact .inr ⟨rest, hreset⟩
  · exact .inl (e.err_of_err herr)

/-! ### Every turn of a reachable state answers a next state (R140, R68, U2) -/

section
variable {s : State}

/-- A core that runs is in a phase of its command, where `exec` has a meaning. -/
theorem Inv.coreTurn_answers (hs : Inv s) : ∃ t, coreTurn s = .next t := by
  cases hb : s.busy with
  | false => exact ⟨s, coreTurn_idle hb⟩
  | true =>
    obtain ⟨i, hc, hi⟩ := hs.running hb
    rw [coreTurn_busy hb hc]
    exact exec_of_belongsTo hb hi

/-- Only the last tick of a delay is more than a count: it is the core's turn. -/
theorem Inv.tickTurn_answers (hs : Inv s) : ∃ t, tickTurn s = .next t := by
  unfold tickTurn
  split
  · exact ⟨_, rfl⟩
  · split_ifs
    · exact ⟨_, rfl⟩
    · exact ⟨_, rfl⟩
    · exact hs.coreTurn_answers
    · exact ⟨_, rfl⟩

/-- R68: a write of `CMD` is dropped, accepted or illegal, and each answers a next state. -/
theorem writeCommand_answers (w : Word) (s : State) : ∃ t, writeCommand w s = .next t := by
  cases hb : s.busy with
  | true => exact ⟨s, writeCommand_busy hb⟩
  | false =>
    cases hd : decode w with
    | command i => exact ⟨_, (writeCommand_command hb hd).trans (exec_idle i s hb)⟩
    | illegal r => exact ⟨_, writeCommand_illegal hb hd⟩

theorem hostWrite_answers (x : RegIndex) (w : Word) (s : State) :
    ∃ t, hostWrite x w s = .next t := by
  unfold hostWrite
  split
  · exact writeCommand_answers w s
  · exact ⟨s, rfl⟩

theorem Inv.takeTurn_answers (hs : Inv s) (x : Turn) : ∃ t, takeTurn x s = .next t := by
  cases x with
  | core => exact hs.coreTurn_answers
  | tick => exact hs.tickTurn_answers
  | read x => exact ⟨_, rfl⟩
  | write x w => exact hostWrite_answers x w s
  | reset => exact ⟨_, rfl⟩

end

/-- Settles O18: every turn of a state of the invariant answers, and `step` refuses an ill-formed
binding before it looks at the turn. -/
theorem noStepStopsTheMachine : Obligations.NoStepStopsTheMachine := by
  refine ⟨fun s hs hwf => ?_, fun s => (wf_iff_nodup s.cfg).symm, fun s hwf => ?_⟩
  · cases ht : s.turns with
    | nil =>
      rw [step_nil hwf ht]
      exact hs.coreTurn_answers
    | cons x rest =>
      rw [step_cons hwf ht]
      exact (hs.setTurns rest).takeTurn_answers x
  · simp [step, hwf]

end Sys2Proof.Machine

/-! # The direction of the pads (spec/70_reset_and_hazards.md R177, spec/20_memory.md R44) -/

namespace Sys2Proof.Machine

@[simp] theorem mixChannel_trace (s : State) : (mixChannel s).trace = s.trace := by
  simp only [mixChannel]

@[simp] theorem mixRange_trace (s : State) : (mixRange s).trace = s.trace := by
  simp only [mixRange]

/-! ### The events each phase may append -/

/-- R177: a phase that reads the buttons may append `Btn`, one that drives the LEDs `Led` and
`LedAll`; no other event depends on the direction of the pads. -/
def Phase.permits (p : Phase) : Event → Bool
  | .btn _ => p.reads
  | .led _ _ => p.drives
  | .ledAll _ => p.drives
  | .modeAll _ => true
  | .adc _ => true
  | .delay _ => true
  | .draw _ => true

/-- The trace of `t` is that of `s`, or has one event more at its end, which the phase `p` permits. -/
def AppendsPermitted (p : Phase) (s t : State) : Prop :=
  t.trace = s.trace ∨ ∃ e, t.trace = s.trace ++ [e] ∧ p.permits e = true

theorem AppendsPermitted.permits {p : Phase} {s t : State} (h : AppendsPermitted p s t) {e : Event}
    (he : t.trace = s.trace ++ [e]) : p.permits e = true := by
  obtain h | ⟨e', h, hp⟩ := h
  · simp [h] at he
  · obtain rfl : e' = e := by simpa [h] using he
    exact hp

section
variable {p : Phase} {s : State}

theorem delay_appendsPermitted (n : Nat) : AppendsPermitted p s (delay n s) := by
  by_cases h : s.dly = 0#10
  · exact .inr ⟨.delay n, by rw [delay_trace, if_pos h], rfl⟩
  · exact .inl (by rw [delay_trace, if_neg h])

theorem accumulateSample_appendsPermitted : AppendsPermitted p s (accumulateSample s) := by
  rw [accumulateSample_eq]
  exact .inr ⟨_, rfl, rfl⟩

theorem sampleStep_appendsPermitted (a : SampleAt) : AppendsPermitted p s (sampleStep a s) := by
  unfold sampleStep
  split
  · split
    · exact .inr ⟨_, rfl, rfl⟩
    · exact accumulateSample_appendsPermitted (s := { s with seed := 0#16, scnt := 0#5 })
  · split
    · exact .inl rfl
    · exact accumulateSample_appendsPermitted

theorem showStep_appendsPermitted (a : ShowAt) :
    AppendsPermitted (.showTarget a) s (showStep a s) := by
  cases a with
  | hold => exact delay_appendsPermitted tShow
  | assert | deassert | leave => exact .inr ⟨_, rfl, rfl⟩

theorem awaitStep_appendsPermitted (a : AwaitAt) :
    AppendsPermitted (.await a) s (awaitStep a s) := by
  cases a with
  | wait => exact delay_appendsPermitted tPoll
  | test =>
    by_cases hcnt : s.cnt = 0#16
    · obtain ⟨q, -, h⟩ := leaveAwait_eq s
      rw [awaitStep_test_of_zero hcnt, h]
      exact .inl rfl
    · rw [awaitStep_test_of_ne_zero hcnt]
      exact .inr ⟨_, rfl, rfl⟩

theorem releaseStep_appendsPermitted (o : RoundOutcome) :
    AppendsPermitted (.relWait o) s (releaseStep o s) := by
  rw [releaseStep_eq]
  exact .inr ⟨_, rfl, rfl⟩

/-- A digit's phase drives the LEDs, and what leaves it (R122, R67) appends nothing. -/
theorem blinkStep_appendsPermitted (c : Channel) {here : BlinkAt → Phase} {leave : State → State}
    (a : BlinkAt) (hdrives : (here a).drives = true) (hleave : (leave s).trace = s.trace) :
    AppendsPermitted (here a) s (blinkStep c here leave a s) := by
  cases a with
  | test =>
    by_cases hblk : s.blk = 0#10
    · rw [blinkStep_test_of_zero c here leave hblk]
      exact .inl hleave
    · exact .inr ⟨.led c true, by rw [blinkStep, if_neg hblk]; rfl, hdrives⟩
  | off => exact .inr ⟨_, rfl, hdrives⟩
  | onHold => exact delay_appendsPermitted tBlinkOn
  | offHold => exact delay_appendsPermitted tBlinkOff

theorem startAnimStep_appendsPermitted (a : StartAnimAt) :
    AppendsPermitted (.animS a) s (startAnimStep a s) := by
  cases a with
  | enter | offWrite | onWrite => exact .inr ⟨_, rfl, rfl⟩
  | offHold =>
    simp only [startAnimStep, offSweepHold_eq]
    exact delay_appendsPermitted tAnimStep
  | onHold =>
    obtain ⟨-, h⟩ | ⟨-, h⟩ | ⟨-, h⟩ := onSweepHold_cases s <;>
      simp only [startAnimStep, h] <;> exact delay_appendsPermitted tAnimStep
  | pause => exact delay_appendsPermitted tAnimPause
  | finish => exact .inl rfl

theorem failAnimStep_appendsPermitted (a : FailAnimAt) :
    AppendsPermitted (.animF a) s (failAnimStep a s) := by
  cases a with
  | enter | on | off => exact .inr ⟨_, rfl, rfl⟩
  | onHold => exact delay_appendsPermitted tFail
  | offHold =>
    simp only [failAnimStep, failOffHold_eq]
    exact delay_appendsPermitted tFail
  | finish => exact .inl rfl

/-- R177: the event of a running command's step is one its phase permits. -/
theorem Primitive.appendsPermitted {i : Instr} {t : State} (h : Primitive s i t) :
    AppendsPermitted s.ph s t := by
  cases h with
  | sample _ a => exact sampleStep_appendsPermitted a
  | enterShow => exact .inr ⟨.modeAll .output, by simp [Machine.enterShow], rfl⟩
  | showTarget _ a hp => rw [hp]; exact showStep_appendsPermitted a
  | await _ a hp => rw [hp]; exact awaitStep_appendsPermitted a
  | relWait _ o hp => rw [hp]; exact releaseStep_appendsPermitted o
  | dispEnter => exact .inr ⟨_, rfl, rfl⟩
  | dispH _ a hp => rw [hp]; exact blinkStep_appendsPermitted _ a rfl rfl
  | dispT _ a hp => rw [hp]; exact blinkStep_appendsPermitted _ a rfl rfl
  | dispU _ a hp => rw [hp]; exact blinkStep_appendsPermitted _ a rfl rfl
  | animS a hp => rw [hp]; exact startAnimStep_appendsPermitted a
  | animF a hp => rw [hp]; exact failAnimStep_appendsPermitted a
  | finishChannel => exact .inl (by simp [Machine.finishChannel])
  | finishRange => exact .inl (by simp [Machine.finishRange])
  | resHit | resFail => exact .inl rfl

/-- Beside a running command only the first tick of a delay appends an event. -/
theorem TurnEffect.appendsPermitted {rest : List Turn} {t : State}
    (h : TurnEffect s (setTurns rest s) t) : AppendsPermitted s.ph s t := by
  cases h with
  | beginDelay => exact .inr ⟨_, rfl, rfl⟩
  | run i _ _ _ hexec =>
    obtain ⟨-, rfl⟩ | ⟨-, hprim⟩ := exec_next hexec
    · exact .inl rfl
    · exact hprim.appendsPermitted
  | same | countPeriod | accept | illegal | read => exact .inl rfl

/-- R177: what a step appends, its phase permits; a reset empties the trace (R160) and appends
nothing. -/
theorem permits_of_step_appends {t : State} {e : Event} (h : step s = .next t)
    (he : t.trace = s.trace ++ [e]) : s.ph.permits e = true := by
  obtain ⟨rest, -, rfl⟩ | effect := step_next h
  · simp [State.reset] at he
  · exact effect.appendsPermitted.permits he

end

/-- Settles O20: the phase permits the event appended, and the invariant fixes `MODE` in a phase that
reads or drives the pads. -/
theorem padsAreNeverDrivenAndReadAtOnce : Obligations.PadsAreNeverDrivenAndReadAtOnce := by
  intro s t hs h
  exact ⟨fun _ he => hs.reading (permits_of_step_appends h he),
    fun _ _ he => hs.driving (permits_of_step_appends h he),
    fun _ he => hs.driving (permits_of_step_appends h he)⟩

end Sys2Proof.Machine
